-- ==== Sys2Proof/Word.lean ====
section
/-! DEFINITION. The two word types of the Rockwell MCU CPU (spec/00_scope.md R2: `XLEN` is 8 bits,
`ALEN` is 16 bits).  Every helper over them stands in Machine/Bits.lean. -/

namespace Sys2Proof

/-- A data byte: the width of A, X, Y, S and of every memory access (R2, R44). -/
abbrev Byte := BitVec 8

/-- A 16-bit quantity: an address, PC, W or I (R2). -/
abbrev Word := BitVec 16

end Sys2Proof
end

