-- ==== Sys2Proof/Config.lean ====
section
/-! DEFINITION. What the spec leaves to the platform (spec/00_scope.md R2) as plain data, and the
free values: constants without a body, about which nothing can be proved. -/

namespace Sys2Proof

/-- What stands at an address (R42): read/write memory, memory that ignores writes, a device
window, or nothing. -/
inductive RegionKind where
  | ram
  | rom
  | io
  | unmapped
deriving DecidableEq, Repr

/-- One record of the parameter `MEMMAP` (R2, R41): `size` addresses from `base` up are of one
kind.  The records are searched in order and the first that holds the address decides. -/
structure Region where
  base : Nat
  size : Nat
  kind : RegionKind
deriving DecidableEq, Repr

/-- One entry of the parameter `IRQ_SOURCES` (R2, R302: a name and a vector address) with the
"request pending" boolean that the model holds for it (R26). -/
structure IrqLine where
  name : String
  vector : Word
  pending : Bool
deriving DecidableEq, Repr

/-- The implementation parameters of R2 that the spec leaves open or gives an alternative to.  No
instruction writes them (DESIGN CHOICE, safe: log entry 21).  The list `IRQ_SOURCES` stands in the
state as `State.irqs`, because each of its entries carries a pending bit. -/
structure Params where
  /-- `BRK_VECTOR`: 0xFFFC, alternative 0xFFF0 (decision D9, conflict C1). -/
  brkVector : Word
  /-- `BRK_RETURN_OFFSET`: 1, alternative 2 (decision D10, conflict C2). -/
  brkReturnOffset : Word
  /-- `P_BIT5`: bit 5 of a pushed P (decision D3). -/
  pBit5 : Bool
  /-- `PIA_LOADS_X` (conflict C13). -/
  piaLoadsX : Bool
  /-- `RESET_I`: the interrupt disable flag after the start sequence (decision D19). -/
  resetI : Bool
  /-- `MEMMAP` (decision D20). -/
  memMap : List Region
deriving DecidableEq, Repr

/-- The free bytes (`ANY8`, R4): the `k`-th byte drawn.  No body: nothing can evaluate it. -/
opaque Config.freeByte : Nat → Byte

/-- The free 16-bit values (R331: W and I after reset; R330: the unknown address "?"). -/
opaque Config.freeWord : Nat → Word

/-- The free flags (R161, R165: N, Z, C after decimal arithmetic on operands that are not BCD;
R331: the flags after reset). -/
opaque Config.freeFlag : Nat → Bool

end Sys2Proof
end

