-- ==== Sys2Proof/Machine/Bits.lean ====
section
/-! DEFINITION. Byte order, extension and bit-field helpers (spec/00_scope.md R3, R4). -/

namespace Sys2Proof

/-- `v[15:8]` of a 16-bit value (R3, R4: PCH, WH, IH). -/
def hiByte (w : Word) : Byte := w.extractLsb' 8 8

/-- `v[7:0]` of a 16-bit value (R3, R4: PCL, WL, IL). -/
def loByte (w : Word) : Byte := w.extractLsb' 0 8

/-- `hi:lo`, the concatenation of two bytes, high byte first (R3). -/
def wordOf (hi lo : Byte) : Word := hi ++ lo

/-- `zext_16` (R4): a byte as a page zero address or an unsigned index. -/
def zext (b : Byte) : Word := b.setWidth 16

/-- `sext_16` (R4): a relative offset r is a signed 8-bit number (R73). -/
def sext (b : Byte) : Word := b.signExtend 16

/-- `1 << b` as a byte, the mask of bit `b` (R210, R211). -/
def bitMask (b : Fin 8) : Byte := 1#8 <<< b.val

/-- `v[b]` (R3). -/
def bitOf (v : Byte) (b : Fin 8) : Bool := v.getLsbD b.val

end Sys2Proof
end

