-- ==== Sys2Proof/Machine/Memory.lean ====
section
/-! DEFINITION. The memory: one address space of 65536 bytes (spec/20_memory.md R40), held as a
list of (address, byte) pairs in one canonical form, and the memory map (R42). -/

namespace Sys2Proof.Machine

/-- The bytes that differ from what an unlisted address reads as, addresses strictly rising. -/
abbrev Memory := List Host.Cell

/-- How many addresses there are (R40). -/
def Memory.size : Nat := 65536

/-- What an address that no entry lists reads as.  DESIGN CHOICE, unsafe (log entry 2): the initial
contents are the platform's (R28). -/
def Memory.unlisted : Byte := 0x00

/-- The byte held at an address. -/
def Memory.byteAt : Memory → Nat → Byte
  | [], _ => Memory.unlisted
  | (k, v) :: rest, a => if k = a then v else Memory.byteAt rest a

/-- Take every entry for an address out. -/
def Memory.erase : Memory → Nat → Memory
  | [], _ => []
  | (k, w) :: rest, a =>
    if k = a then Memory.erase rest a else (k, w) :: Memory.erase rest a

/-- Put an entry in its place in the rising order of addresses. -/
def Memory.insert : Memory → Nat → Byte → Memory
  | [], a, v => [(a, v)]
  | (k, w) :: rest, a, v =>
    if a < k then (a, v) :: (k, w) :: rest
    else if k = a then (a, v) :: rest
    else (k, w) :: Memory.insert rest a v

/-- Set the byte held at an address, keeping the canonical form: writing what an unlisted address
reads as takes the entry out. -/
def Memory.set (m : Memory) (a : Nat) (v : Byte) : Memory :=
  if v = Memory.unlisted then m.erase a else m.insert a v

/-- `m` is canonical from `lo` up: addresses strictly rising and inside the address space, no entry
equal to what an unlisted address reads as. -/
def Memory.wfFrom : Nat → Memory → Bool
  | _, [] => true
  | lo, (k, v) :: rest =>
    decide (lo ≤ k) && decide (k < Memory.size) && decide (v ≠ Memory.unlisted) &&
      Memory.wfFrom (k + 1) rest

/-- The canonical form of a memory. -/
def Memory.wf (m : Memory) : Bool := Memory.wfFrom 0 m

/-- The kind of region an address lies in (R42): the first record of the map that holds it decides;
where the map has nothing, nothing is there. -/
def regionKind : List Region → Nat → RegionKind
  | [], _ => .unmapped
  | r :: rs, a => if r.base ≤ a ∧ a < r.base + r.size then r.kind else regionKind rs a

/-- The parameters at the defaults of R2.  `MEMMAP` is OPEN; the model's default map is read/write
memory at every address: DESIGN CHOICE, unsafe (log entry 3). -/
def defaultParams : Params where
  brkVector := 0xFFFC
  brkReturnOffset := 1
  pBit5 := true
  piaLoadsX := true
  resetI := true
  memMap := [{ base := 0, size := 65536, kind := .ram }]

end Sys2Proof.Machine
end

