-- ==== Sys2Proof/Machine/State.lean ====
section
/-! DEFINITION. The state of the machine as plain data, the reasons a step can stop, and the state
after reset (spec/10_state.md). -/

namespace Sys2Proof.Machine

/-- The flags of the processor status register P (R14).  Bit 5 has no state (R22). -/
@[ext]
structure Status where
  /-- negative (R15) -/
  n : Bool
  /-- overflow (R16) -/
  v : Bool
  /-- break: a stored bit that only BRK sets (R17) -/
  b : Bool
  /-- decimal mode (R18) -/
  d : Bool
  /-- interrupt disable, written `I_flag` by the spec (R19) -/
  i : Bool
  /-- zero (R20) -/
  z : Bool
  /-- carry (R21) -/
  c : Bool
deriving DecidableEq, Repr

/-- One access that reached a device window (R42: an access to an `io` region is a call into a
device model that the platform supplies). -/
inductive IoEvent where
  | read (addr : Word) (value : Byte)
  | write (addr : Word) (value : Byte)
deriving DecidableEq, Repr

/-- The model's own record of the bus; no instruction can read it.  DESIGN CHOICE, safe (log entry
4). -/
@[ext]
structure Bus where
  /-- How many free values have been drawn: the index of the next one. -/
  draws : Nat
  /-- The accesses that reached a device window, oldest first (R45, R48, R51). -/
  io : List IoEvent
  /-- Machine cycles so far: one for each bus access (R335), and those whose access is not given
  (log entry 11). -/
  cycles : Nat
deriving DecidableEq, Repr

/-- The state: the eight registers of R10, memory (R40), the pending requests (R26), the parameters
of R2 (no step changes them) and the model's record of the bus. -/
@[ext]
structure State where
  /-- accumulator (R11) -/
  a : Byte
  /-- index register X (R12) -/
  x : Byte
  /-- index register Y (R12) -/
  y : Byte
  /-- stack pointer S (R13) -/
  sp : Byte
  /-- processor status P (R14) -/
  p : Status
  /-- program counter (R23) -/
  pc : Word
  /-- the W register (R24) -/
  w : Word
  /-- the I register (R25) -/
  ireg : Word
  /-- the bytes of memory (R40) -/
  mem : Memory
  /-- a reset is asserted (R330, D13); set by the environment -/
  resetPending : Bool
  /-- NMI is requested (R26, R302); set by the environment -/
  nmiPending : Bool
  /-- `IRQ_SOURCES` in priority order (R302, R309), each with its pending bit -/
  irqs : List IrqLine
  /-- the implementation parameters (R2) -/
  params : Params
  /-- the model's record of the bus -/
  bus : Bus
deriving DecidableEq, Repr

/-- Why the machine stops. -/
inductive Fault where
  /-- Raised by `step` when the byte fetched as an op code is one of the 27 marked "Not Used": the
  spec says the model faults and does not continue (R76, R315, decision D15).  Safe: the chip may
  go on, the model does not. -/
  | unusedOpcode (opcode : Byte) (pc : Word)
deriving DecidableEq, Repr

/-- Why the model declines. -/
inductive Refusal where
  /-- Raised by an arm of `exec` for an instruction without a meaning; no arm raises it.  Safe: the
  model stops where the hardware goes on. -/
  | notModelled (mnemonic : String)
deriving DecidableEq, Repr

/-- The outcome of a step or of an instruction. -/
abbrev Result := Host.Outcome State Fault Refusal

/-- The machine right after the start sequence (R28, R331), with the default parameters, memory
with nothing listed, and no maskable source (`IRQ_SOURCES` is OPEN, D12).  The spec fixes PC (the
vector at FFFE/FFFF), D = 0, I_flag = `RESET_I` and no pending request; every other register is
unspecified and zero here: DESIGN CHOICE, unsafe (log entry 1). -/
def State.reset : State where
  a := 0
  x := 0
  y := 0
  sp := 0
  p := { n := false, v := false, b := false, d := false, i := defaultParams.resetI, z := false,
         c := false }
  pc := wordOf (Memory.byteAt [] 0xFFFF) (Memory.byteAt [] 0xFFFE)
  w := 0
  ireg := 0
  mem := []
  resetPending := false
  nmiPending := false
  irqs := []
  params := defaultParams
  bus := { draws := 0, io := [], cycles := 0 }

end Sys2Proof.Machine
end

