-- ==== Sys2Proof/Machine/Ops.lean ====
section
/-! DEFINITION. The named operations over memory and registers: bus accesses (spec/20_memory.md),
16-bit reads, the stack (spec/46_stack.md), taking an exception and returning from one, and the
start sequence (spec/60_exceptions.md, spec/70_reset_and_hazards.md).

A read is two functions: `peek` is the byte it yields, `touch` the state after it.  An access whose
data the CPU discards (R48) is a `touch` alone. -/

namespace Sys2Proof.Machine

/-! ### The bus -/

/-- What stands at an address (R42). -/
def State.kindAt (s : State) (a : Word) : RegionKind := regionKind s.params.memMap a.toNat

/-- The byte memory holds at an address (R40, R51). -/
def State.byteAt (s : State) (a : Word) : Byte := Memory.byteAt s.mem a.toNat

/-- The byte that a read of `a` yields now (R42): the stored byte where there is memory; a free
byte where nothing is there and from a device, whose model the platform supplies.  DEDUCED, safe
(log entry 5). -/
def State.peek (s : State) (a : Word) : Byte :=
  match s.kindAt a with
  | .ram => s.byteAt a
  | .rom => s.byteAt a
  | .io => Config.freeByte s.bus.draws
  | .unmapped => Config.freeByte s.bus.draws

/-- The record of the bus after a read of `a` in a region of kind `k`: one cycle (R335); a read that
yields a free byte uses it up; a read in a device window reaches the device (R42). -/
def busAfterRead (k : RegionKind) (a : Word) (b : Bus) : Bus :=
  match k with
  | .ram => { b with cycles := b.cycles + 1 }
  | .rom => { b with cycles := b.cycles + 1 }
  | .io => { draws := b.draws + 1, io := b.io ++ [.read a (Config.freeByte b.draws)],
             cycles := b.cycles + 1 }
  | .unmapped => { b with draws := b.draws + 1, cycles := b.cycles + 1 }

/-- The state after a read of `a` (R44: one byte wide). -/
def State.touch (s : State) (a : Word) : State :=
  { s with bus := busAfterRead (s.kindAt a) a s.bus }

/-- `n` reads of the same address whose data is discarded (R48). -/
def State.touchTimes : Nat → State → Word → State
  | 0, s, _ => s
  | n + 1, s, a => State.touchTimes n (s.touch a) a

/-- `MemRead(a, 1)` (R4): the byte and the state after the access. -/
def State.read (s : State) (a : Word) : Byte × State := (s.peek a, s.touch a)

/-- The memory after a write (R42): only read/write memory takes the byte. -/
def memAfterWrite (k : RegionKind) (a : Word) (v : Byte) (m : Memory) : Memory :=
  match k with
  | .ram => Memory.set m a.toNat v
  | .rom => m
  | .io => m
  | .unmapped => m

/-- The record of the bus after a write: one cycle; a write in a device window reaches the device.
-/
def busAfterWrite (k : RegionKind) (a : Word) (v : Byte) (b : Bus) : Bus :=
  match k with
  | .ram => { b with cycles := b.cycles + 1 }
  | .rom => { b with cycles := b.cycles + 1 }
  | .io => { b with io := b.io ++ [.write a v], cycles := b.cycles + 1 }
  | .unmapped => { b with cycles := b.cycles + 1 }

/-- `MemWrite(a, 1, v)` (R4, R42). -/
def State.write (s : State) (a : Word) (v : Byte) : State :=
  { s with mem := memAfterWrite (s.kindAt a) a v s.mem
           bus := busAfterWrite (s.kindAt a) a v s.bus }

/-- `n` cycles whose bus accesses the spec does not give (R335, R336). -/
def State.tick (s : State) (n : Nat) : State :=
  { s with bus := { s.bus with cycles := s.bus.cycles + n } }

/-- `Read16(a)` (R4, R45): low byte first, the address of the high byte modulo 65536 (R46). -/
def State.read16 (s : State) (a : Word) : Word × State :=
  let lo := s.read a
  let hi := lo.2.read (a + 1)
  (wordOf hi.1 lo.1, hi.2)

/-- `Read16zp(n)` (R4, R108): both bytes in page zero. -/
def State.read16zp (s : State) (n : Byte) : Word × State :=
  let lo := s.read (zext n)
  let hi := lo.2.read (zext (n + 1))
  (wordOf hi.1 lo.1, hi.2)

/-! ### Registers -/

/-- `A <- v`. -/
def State.setA (s : State) (v : Byte) : State := { s with a := v }

/-- `X <- v`. -/
def State.setX (s : State) (v : Byte) : State := { s with x := v }

/-- `Y <- v`. -/
def State.setY (s : State) (v : Byte) : State := { s with y := v }

/-- `S <- v`. -/
def State.setSp (s : State) (v : Byte) : State := { s with sp := v }

/-- `W <- v`. -/
def State.setW (s : State) (v : Word) : State := { s with w := v }

/-- `I <- v` (the I register, R25). -/
def State.setIreg (s : State) (v : Word) : State := { s with ireg := v }

/-- `PC <- v`. -/
def State.setPc (s : State) (v : Word) : State := { s with pc := v }

/-- All flags at once. -/
def State.setP (s : State) (v : Status) : State := { s with p := v }

/-- `PC <- npc` for an instruction of `len` bytes (R4, R23: modulo 65536). -/
def State.advance (s : State) (len : Nat) : State := s.setPc (s.pc + BitVec.ofNat 16 len)

/-- A free byte (`ANY8`, R4), drawn afresh (decision D17): the value and the state after the draw.
-/
def State.draw (s : State) : Byte × State :=
  (Config.freeByte s.bus.draws, { s with bus := { s.bus with draws := s.bus.draws + 1 } })

/-! ### The stack -/

/-- The address of the stack location that S designates, always in page one (R13, R56).  DEDUCED,
unsafe (log entry 8). -/
def stackAddr (sp : Byte) : Word := 0x0100 + zext sp

/-- `Push(v)` (R250): write, then S - 1 modulo 256. -/
def State.push (s : State) (v : Byte) : State :=
  (s.write (stackAddr s.sp) v).setSp (s.sp - 1)

/-- Push a 16-bit value, high byte first (R45, R233). -/
def State.push16 (s : State) (v : Word) : State := (s.push (hiByte v)).push (loByte v)

/-- `Pull()` (R257): S + 1 modulo 256, then read. -/
def State.pull (s : State) : Byte × State := (s.setSp (s.sp + 1)).read (stackAddr (s.sp + 1))

/-- Pull a 16-bit value, low byte first (R45, R235). -/
def State.pull16 (s : State) : Word × State :=
  let lo := s.pull
  let hi := lo.2.pull
  (wordOf hi.1 lo.1, hi.2)

/-! ### Exceptions -/

/-- `vector(NMI)` (R305, R306). -/
def nmiVector : Word := 0xFFFC

/-- `RES_VECTOR` (R2, R330). -/
def resetVector : Word := 0xFFFE

/-- A boolean as bit `k` of a byte. -/
def flagBit (f : Bool) (k : Nat) : Byte := if f then 1#8 <<< k else 0

/-- `PByte()` (R250): the byte that stands for P on the stack, N V bit5 B D I Z C from bit 7 down
(R14); bit 5 is the parameter `P_BIT5` (R22).  The bit numbers are PRESUMED, unsafe (log entry 7).
-/
def pByte (bit5 : Bool) (p : Status) : Byte :=
  flagBit p.n 7 ||| flagBit p.v 6 ||| flagBit bit5 5 ||| flagBit p.b 4 |||
    flagBit p.d 3 ||| flagBit p.i 2 ||| flagBit p.z 1 ||| flagBit p.c 0

/-- `RestoreP(v)` (R257): six flags from the byte; B keeps its value and bits 5 and 4 are not
used (R17, R22). -/
def restoreP (v : Byte) (p : Status) : Status :=
  { n := v.getLsbD 7, v := v.getLsbD 6, b := p.b, d := v.getLsbD 3, i := v.getLsbD 2,
    z := v.getLsbD 1, c := v.getLsbD 0 }

/-- Taking an exception (R305 to R308, R237): push the return address, high byte first, then P as
it stands; set I_flag, and B too where `setB` (BRK only, R301); continue at the address that the
vector holds.  DEDUCED, unsafe (log entries 9 and 10). -/
def State.takeException (s : State) (ret vector : Word) (setB : Bool) : State :=
  let s1 := (s.push16 ret).push (pByte s.params.pBit5 s.p)
  let s2 := s1.setP { s1.p with b := s1.p.b || setB, i := true }
  let v := s2.read16 vector
  v.2.setPc v.1

/-- Returning from one (R236, R312): pull P (six flags), then the address, used as it is. -/
def State.returnFromException (s : State) : State :=
  let v := s.pull
  let s1 := v.2.setP (restoreP v.1 v.2.p)
  let ret := s1.pull16
  ret.2.setPc ret.1

/-- The hardware interrupt sequence (R305): the op code at PC is fetched twice and not executed
(R48), the pushed address is PC, B is not written (R308). -/
def State.interruptSequence (s : State) (vector : Word) : State :=
  (s.touchTimes 2 s.pc).takeException s.pc vector false

/-- The first pending entry of `IRQ_SOURCES` (R309: list order): its vector, and the list with its
request cleared (R302). -/
def takeFirstPending : List IrqLine → Option (Word × List IrqLine)
  | [] => none
  | l :: ls =>
    if l.pending then some (l.vector, { l with pending := false } :: ls)
    else (takeFirstPending ls).map fun r => (r.1, l :: r.2)

/-- The maskable request to be taken at this boundary, if any (R303, R304). -/
def State.maskableRequest (s : State) : Option (Word × List IrqLine) :=
  if s.p.i then none else takeFirstPending s.irqs

/-- The registers that the start sequence leaves unspecified, each a free value drawn once (R331,
U9); D = 0, I_flag = `RESET_I`, nothing pending. -/
def State.unspecifyRegisters (s : State) : State :=
  let k := s.bus.draws
  { s with
    a := Config.freeByte k, x := Config.freeByte (k + 1), y := Config.freeByte (k + 2)
    sp := Config.freeByte (k + 3), w := Config.freeWord k, ireg := Config.freeWord (k + 1)
    p := { n := Config.freeFlag k, v := Config.freeFlag (k + 1), b := Config.freeFlag (k + 2),
           d := false, i := s.params.resetI, z := Config.freeFlag (k + 3),
           c := Config.freeFlag (k + 4) }
    resetPending := false
    nmiPending := false
    irqs := s.irqs.map fun l => { l with pending := false }
    bus := { s.bus with draws := k + 5 } }

/-- The five ignored reads of the start sequence (R330).  Their addresses depend on state that the
sources do not give: the "?" of the first two is a free word, and the S of the three in page one
is a free byte, tied neither to the S before the reset nor to the one after it: DESIGN CHOICE,
safe (log entry 24). -/
def State.startReads (s : State) : State :=
  let u := Config.freeWord s.bus.draws
  let sp := Config.freeByte s.bus.draws
  let s0 := { s with bus := { s.bus with draws := s.bus.draws + 1 } }
  ((((s0.touch u).touch (u + 1)).touch (stackAddr sp)).touch (stackAddr (sp - 1))).touch
    (stackAddr (sp - 2))

/-- The start sequence (R330): the five ignored reads, then PC from the vector at FFFE/FFFF; DEDUCED
(log entry 15).  Nothing is written to memory, and its contents are those before the reset, although
the sources do not say that memory survives one: DESIGN CHOICE, unsafe (log entry 25). -/
def State.startSequence (s : State) : State :=
  let v := s.startReads.read16 resetVector
  (v.2.setPc v.1).unspecifyRegisters

/-! ### The environment (R26, R302): the inputs that set a pending request -/

/-- NMI is requested. -/
def State.requestNmi (s : State) : State := { s with nmiPending := true }

/-- Set the pending bit of the `k`-th entry of `IRQ_SOURCES` (log entry 17). -/
def setPending : List IrqLine → Nat → List IrqLine
  | [], _ => []
  | l :: ls, 0 => { l with pending := true } :: ls
  | l :: ls, k + 1 => l :: setPending ls k

/-- The `k`-th source of `IRQ_SOURCES` requests. -/
def State.requestIrq (s : State) (k : Nat) : State := { s with irqs := setPending s.irqs k }

/-- Reset is asserted (R330); taken at the next instruction boundary (U20). -/
def State.requestReset (s : State) : State := { s with resetPending := true }

end Sys2Proof.Machine
end

