-- ==== Sys2Proof/Machine/Flags.lean ====
section
/-! DEFINITION. Every result and flag computation of the spec, as functions of the operands
(spec/42_arithmetic_logic.md, spec/43_shift_multiply_w.md).  Arithmetic is exact on integers and
narrowed at the end (R3). -/

namespace Sys2Proof.Machine

/-- `SetNZ(v)` (R4): N is bit 7, Z says that the byte is zero. -/
def Status.setNZ (p : Status) (v : Byte) : Status := { p with n := v.msb, z := decide (v = 0) }

/-- A boolean as the integer 0 or 1. -/
def bit01 (c : Bool) : Nat := if c then 1 else 0

/-- The result byte of an addition or subtraction with the four flags it writes. -/
structure AluResult where
  r : Byte
  n : Bool
  v : Bool
  z : Bool
  c : Bool
deriving DecidableEq, Repr

/-- Put the four flags of a result into P. -/
def Status.setAlu (p : Status) (o : AluResult) : Status :=
  { p with n := o.n, v := o.v, z := o.z, c := o.c }

/-- `AddBin(a, m, cin)` (R160). -/
def addBin (a m : Byte) (cin : Bool) : AluResult :=
  let s := a.toNat + m.toNat + bit01 cin
  let r := BitVec.ofNat 8 s
  { r := r, n := r.msb, v := ((a ^^^ r) &&& (m ^^^ r)).msb, z := decide (r = 0),
    c := decide (s > 255) }

/-- `SubBin(a, m, cin)` (R164); `cin` is the C flag, the borrow is its complement.
V is decision D32 (DEDUCED, unsafe: log entry 14). -/
def subBin (a m : Byte) (cin : Bool) : AluResult :=
  let d : Int := (a.toNat : Int) - m.toNat - (1 - bit01 cin)
  let r := BitVec.ofInt 8 d
  { r := r, n := r.msb, v := ((a ^^^ m) &&& (a ^^^ r)).msb, z := decide (r = 0),
    c := decide (d ≥ 0) }

/-- A byte is valid packed BCD when both of its nibbles are 0..9 (R161). -/
def isBcd (b : Byte) : Bool := decide (b.toNat / 16 ≤ 9) && decide (b.toNat % 16 ≤ 9)

/-- `dec(b)` (R161). -/
def dec (b : Byte) : Nat := 10 * (b.toNat / 16) + b.toNat % 16

/-- `bcd(n)` (R161), for n in 0..99. -/
def bcd (n : Nat) : Byte := BitVec.ofNat 8 ((n / 10) * 16 + n % 10)

/-- What decimal arithmetic gives on an operand that is not BCD: any byte, any N, Z and C, and
V = 0 (R161, R165, decision D16; DEDUCED, safe: log entry 14); `k` says which free values. -/
def decimalAny (k : Nat) : AluResult :=
  { r := Config.freeByte k, n := Config.freeFlag k, v := false, z := Config.freeFlag (k + 1),
    c := Config.freeFlag (k + 2) }

/-- How many free values `decimalAny` uses. -/
def decimalDraws (a m : Byte) : Nat := if isBcd a && isBcd m then 0 else 3

/-- `AddDec(a, m, cin)` (R161, decision D31; DEDUCED, unsafe: log entry 14). -/
def addDec (a m : Byte) (cin : Bool) (k : Nat) : AluResult :=
  if isBcd a && isBcd m then
    let s := dec a + dec m + bit01 cin
    let r := bcd (s % 100)
    { r := r, n := r.msb, v := false, z := decide (r = 0), c := decide (s > 99) }
  else decimalAny k

/-- `SubDec(a, m, cin)` (R165, decision D31; DEDUCED, unsafe: log entry 14). -/
def subDec (a m : Byte) (cin : Bool) (k : Nat) : AluResult :=
  if isBcd a && isBcd m then
    let d : Int := (dec a : Int) - dec m - (1 - bit01 cin)
    let r := bcd (d % 100).toNat
    { r := r, n := r.msb, v := false, z := decide (r = 0), c := decide (d ≥ 0) }
  else decimalAny k

/-- `Compare(r, m)` (R171): N, Z and C; nothing is stored and V is not written. -/
def Status.compare (p : Status) (r m : Byte) : Status :=
  { p with n := (r - m).msb, z := decide (r = m), c := decide (r.toNat ≥ m.toNat) }

/-- BIT (R170): N and V from the memory byte, Z from the conjunction. -/
def Status.bitTest (p : Status) (a m : Byte) : Status :=
  { p with n := m.msb, v := m.getLsbD 6, z := decide (a &&& m = 0) }

/-- The result and flags of a shift: N, Z from the result, C the bit shifted out. -/
def shifted (r : Byte) (c : Bool) (p : Status) : Byte × Status :=
  (r, { p.setNZ r with c := c })

/-- ASL (R190). -/
def aslByte (v : Byte) (p : Status) : Byte × Status := shifted (v <<< 1) v.msb p

/-- LSR (R191); N is bit 7 of the result, which is 0. -/
def lsrByte (v : Byte) (p : Status) : Byte × Status := shifted (v >>> 1) (v.getLsbD 0) p

/-- ROL (R192): a 9-bit rotation through the carry. -/
def rolByte (v : Byte) (p : Status) : Byte × Status :=
  shifted ((v <<< 1) ||| flagBit p.c 0) v.msb p

/-- ROR (R193). -/
def rorByte (v : Byte) (p : Status) : Byte × Status :=
  shifted ((v >>> 1) ||| flagBit p.c 7) (v.getLsbD 0) p

/-- ASR (R194): bit 7 keeps its value. -/
def asrByte (v : Byte) (p : Status) : Byte × Status :=
  shifted ((v >>> 1) ||| (v &&& 0x80)) (v.getLsbD 0) p

/-- INC (R175). -/
def incByte (v : Byte) (p : Status) : Byte × Status := (v + 1, p.setNZ (v + 1))

/-- DEC (R176). -/
def decByte (v : Byte) (p : Status) : Byte × Status := (v - 1, p.setNZ (v - 1))

/-- NEG (R181). -/
def negByte (v : Byte) (p : Status) : Byte × Status := (0 - v, p.setNZ (0 - v))

/-- LAB (R182). -/
def labByte (v : Byte) (p : Status) : Byte × Status :=
  let r := if v.msb then 0 - v else v
  (r, p.setNZ r)

/-- MPY (R195): the signed product as 16 bits. -/
def mpyWord (a y : Byte) : Word := BitVec.ofInt 16 (a.toInt * y.toInt)

/-- The accumulation of MPA (R196): the saturated sum and whether it saturated. -/
def mpaWord (w : Word) (a y : Byte) : Word × Bool :=
  let t : Int := w.toInt + a.toInt * y.toInt
  if t > 32767 then (0x7FFF, true)
  else if t < -32768 then (0x8000, true)
  else (BitVec.ofInt 16 t, false)

/-- RND overflows only at WH = 0x7F with WL bit 7 set (R197). -/
def rndOverflows (w : Word) : Bool := decide (hiByte w = 0x7F) && w.getLsbD 7

/-- The byte RND leaves in A (R197). -/
def rndByte (w : Word) : Byte :=
  if rndOverflows w then 0x7F else hiByte w + flagBit (w.getLsbD 7) 0

end Sys2Proof.Machine
end

