-- ==== Sys2Proof/Machine/Operands.lean ====
section
/-! DEFINITION. Every operand form: the addressing modes (spec/40_addressing.md), how each class of
instruction uses the effective address (R119), and the relative branches.  The accesses are made in
the order of R47, the ignored ones of R48 among them. -/

namespace Sys2Proof.Machine

/-- The addressing modes with a memory operand. -/
inductive Mode where
  | zp (n : Byte)
  | zpX (n : Byte)
  | zpY (n : Byte)
  | abs (nn : Word)
  | absX (nn : Word)
  | absY (nn : Word)
  | ind (n : Byte)
  | indX (n : Byte)
deriving DecidableEq, Repr

/-- The operand of an instruction that reads one: an immediate or a byte in memory. -/
inductive Operand where
  | imm (n : Byte)
  | mem (m : Mode)
deriving DecidableEq, Repr

/-- Whether the instruction only reads the effective address or writes it too: the indexed forms
differ in their ignored read (R48). -/
inductive Access where
  | read
  | write
deriving DecidableEq, Repr

/-- The length of an instruction with this operand (R71). -/
def modeLength : Mode → Nat
  | .zp _ => 2
  | .zpX _ => 2
  | .zpY _ => 2
  | .abs _ => 3
  | .absX _ => 3
  | .absY _ => 3
  | .ind _ => 2
  | .indX _ => 2

/-- The length of an instruction with this operand (R71). -/
def operandLength : Operand → Nat
  | .imm _ => 2
  | .mem m => modeLength m

/-- The index addition crosses a page (R336 note a). -/
def crossesPage (base : Word) (index : Byte) : Bool :=
  decide ((loByte base).toNat + index.toNat > 255)

/-- The right low byte in the uncorrected page (R48). -/
def uncorrected (base : Word) (index : Byte) : Word :=
  wordOf (hiByte base) (loByte base + index)

/-- A 16-bit base plus an unsigned index, carry into the high byte, modulo 65536 (R107, R109, R110,
R46).  A read makes an ignored read only when it crosses a page, a write always (R48). -/
def State.indexed (s : State) (k : Access) (base : Word) (index : Byte) : Word × State :=
  (base + zext index,
   if k = .write ∨ crossesPage base index = true then s.touch (uncorrected base index) else s)

/-- The effective address of a mode, computed once from the registers at the start of the
instruction (R119), and the state after the accesses that this takes. -/
def State.resolve (s : State) (k : Access) : Mode → Word × State
  | .zp n => (zext n, s)
  | .zpX n => (zext (n + s.x), s.touch (zext n))
  | .zpY n => (zext (n + s.y), s.touch (zext n))
  | .abs nn => (nn, s)
  | .absX nn => s.indexed k nn s.x
  | .absY nn => s.indexed k nn s.y
  | .ind n => s.read16zp n
  | .indX n => (s.read16zp n).2.indexed k (s.read16zp n).1 s.x

/-- The operand byte `M` and the state after reading it. -/
def State.operand (s : State) : Operand → Byte × State
  | .imm n => (n, s)
  | .mem m => (s.resolve .read m).2.read (s.resolve .read m).1

/-! ### Classes of instructions (R119) -/

/-- One-byte instructions without a memory operand (R100, R101): one ignored read of pc + 1, then
`PC <- npc`. -/
def State.implied (s : State) : State := (s.touch (s.pc + 1)).advance 1

/-- `A <- M; SetNZ(A)` for the byte `v`. -/
def State.loadA (s : State) (v : Byte) : State := (s.setA v).setP (s.p.setNZ v)

/-- `X <- M; SetNZ(X)`. -/
def State.loadX (s : State) (v : Byte) : State := (s.setX v).setP (s.p.setNZ v)

/-- `Y <- M; SetNZ(Y)`. -/
def State.loadY (s : State) (v : Byte) : State := (s.setY v).setP (s.p.setNZ v)

/-- A read instruction: read the operand, let `f` use the byte, `PC <- npc`. -/
def State.withOperand (s : State) (o : Operand) (f : State → Byte → State) : State :=
  (f (s.operand o).2 (s.operand o).1).advance (operandLength o)

/-- A store: `MemWrite(ea, 1, v); PC <- npc`. -/
def State.storeTo (s : State) (m : Mode) (v : Byte) : State :=
  ((s.resolve .write m).2.write (s.resolve .write m).1 v).advance (modeLength m)

/-- A read/modify/write of the byte at `ea` (R50, R119): read, an ignored second read, one write. -/
def State.modifyAt (s : State) (ea : Word) (f : Byte → Status → Byte × Status) : State :=
  let r := f (s.peek ea) s.p
  (((s.touch ea).touch ea).write ea r.1).setP r.2

/-- A read/modify/write instruction. -/
def State.modify (s : State) (m : Mode) (f : Byte → Status → Byte × Status) : State :=
  ((s.resolve .write m).2.modifyAt (s.resolve .write m).1 f).advance (modeLength m)

/-- The accumulator form of a shift or of NEG, LAB: memory is unaffected. -/
def State.modifyA (s : State) (f : Byte → Status → Byte × Status) : State :=
  (s.implied.setA (f s.a s.p).1).setP (f s.a s.p).2

/-! ### Branches -/

/-- Branch target (R111, R116, R118): relative to the address of the next instruction (log entries 8
and 11). -/
def branchTarget (npc : Word) (r : Byte) : Word := npc + sext r

/-- A two-byte relative branch (R220, R229).  When it is taken the op code at npc is fetched and
dropped, and across a page there is one more read in the uncorrected page (R48, log entry 16). -/
def State.branch (s : State) (cond : Bool) (r : Byte) : State :=
  let npc := s.pc + 2
  let target := branchTarget npc r
  if cond then
    if hiByte target = hiByte npc then (s.touch npc).setPc target
    else ((s.touch npc).touch (wordOf (hiByte npc) (loByte target))).setPc target
  else s.setPc npc

/-- The branch at the end of BBR, BBS, BAR, BAS (R214 to R217).  The bus accesses of the taken case
are not given (N14), its cycles are (R336 note b).  DEDUCED, unsafe (log entry 11). -/
def State.bitBranch (s : State) (cond : Bool) (len : Nat) (r : Byte) : State :=
  let npc := s.pc + BitVec.ofNat 16 len
  let target := branchTarget npc r
  if cond then
    if hiByte target = hiByte npc then (s.tick 1).setPc target else (s.tick 2).setPc target
  else s.setPc npc

end Sys2Proof.Machine
end

