-- ==== Sys2Proof/Machine/Arith.lean ====
section
/-! DEFINITION. Arithmetic, logic, compare, increment and decrement (spec/42_arithmetic_logic.md):
the meaning of each instruction. -/

namespace Sys2Proof.Machine

/-- `n` free values are used up. -/
def State.useDraws (s : State) (n : Nat) : State :=
  { s with bus := { s.bus with draws := s.bus.draws + n } }

/-- Addition of the byte `m` (R162, R163): binary when D = 0; decimal, with one more cycle (R336
note c), when D = 1. -/
def State.addTo (s : State) (m : Byte) (cin : Bool) : State :=
  if s.p.d then
    let o := addDec s.a m cin s.bus.draws
    (((s.useDraws (decimalDraws s.a m)).tick 1).setA o.r).setP (s.p.setAlu o)
  else (s.setA (addBin s.a m cin).r).setP (s.p.setAlu (addBin s.a m cin))

/-- Subtraction of the byte `m` (R166): binary when D = 0; decimal, with one more cycle, when
D = 1. -/
def State.subtractFrom (s : State) (m : Byte) (cin : Bool) : State :=
  if s.p.d then
    let o := subDec s.a m cin s.bus.draws
    (((s.useDraws (decimalDraws s.a m)).tick 1).setA o.r).setP (s.p.setAlu o)
  else (s.setA (subBin s.a m cin).r).setP (s.p.setAlu (subBin s.a m cin))

/-- ADC of the operand byte (R162): the carry in is the C flag. -/
def adcA (s : State) (m : Byte) : State := s.addTo m s.p.c

/-- ADD of the operand byte (R163): the carry in is 0. -/
def addA (s : State) (m : Byte) : State := s.addTo m false

/-- SBC of the operand byte (R166). -/
def sbcA (s : State) (m : Byte) : State := s.subtractFrom m s.p.c

/-- AND of the operand byte (R167). -/
def andA (s : State) (m : Byte) : State := s.loadA (s.a &&& m)

/-- ORA of the operand byte (R168). -/
def oraA (s : State) (m : Byte) : State := s.loadA (s.a ||| m)

/-- EOR of the operand byte (R169). -/
def eorA (s : State) (m : Byte) : State := s.loadA (s.a ^^^ m)

/-- BIT of the operand byte (R170). -/
def bitA (s : State) (m : Byte) : State := s.setP (s.p.bitTest s.a m)

/-- CMP with the operand byte (R172). -/
def cmpA (s : State) (m : Byte) : State := s.setP (s.p.compare s.a m)

/-- CPX with the operand byte (R173). -/
def cmpX (s : State) (m : Byte) : State := s.setP (s.p.compare s.x m)

/-- CPY with the operand byte (R174). -/
def cmpY (s : State) (m : Byte) : State := s.setP (s.p.compare s.y m)

/-- `ADC (n)` (R162). -/
def execAdcInd (n : Byte) (s : State) : Result := .next (s.withOperand (.mem (.ind n)) adcA)

/-- `ADC n` (R162). -/
def execAdcZp (n : Byte) (s : State) : Result := .next (s.withOperand (.mem (.zp n)) adcA)

/-- `ADC #n` (R162). -/
def execAdcImm (n : Byte) (s : State) : Result := .next (s.withOperand (.imm n) adcA)

/-- `ADC nn` (R162). -/
def execAdcAbs (nn : Word) (s : State) : Result := .next (s.withOperand (.mem (.abs nn)) adcA)

/-- `ADC (n),X` (R162). -/
def execAdcIndX (n : Byte) (s : State) : Result := .next (s.withOperand (.mem (.indX n)) adcA)

/-- `ADC n,X` (R162). -/
def execAdcZpX (n : Byte) (s : State) : Result := .next (s.withOperand (.mem (.zpX n)) adcA)

/-- `ADC nn,Y` (R162). -/
def execAdcAbsY (nn : Word) (s : State) : Result := .next (s.withOperand (.mem (.absY nn)) adcA)

/-- `ADC nn,X` (R162). -/
def execAdcAbsX (nn : Word) (s : State) : Result := .next (s.withOperand (.mem (.absX nn)) adcA)

/-- `ADD n` (R163). -/
def execAddZp (n : Byte) (s : State) : Result := .next (s.withOperand (.mem (.zp n)) addA)

/-- `ADD n,X` (R163). -/
def execAddZpX (n : Byte) (s : State) : Result := .next (s.withOperand (.mem (.zpX n)) addA)

/-- `ADD #n` (R163). -/
def execAddImm (n : Byte) (s : State) : Result := .next (s.withOperand (.imm n) addA)

/-- `SBC (n)` (R166). -/
def execSbcInd (n : Byte) (s : State) : Result := .next (s.withOperand (.mem (.ind n)) sbcA)

/-- `SBC n` (R166). -/
def execSbcZp (n : Byte) (s : State) : Result := .next (s.withOperand (.mem (.zp n)) sbcA)

/-- `SBC #n` (R166). -/
def execSbcImm (n : Byte) (s : State) : Result := .next (s.withOperand (.imm n) sbcA)

/-- `SBC nn` (R166). -/
def execSbcAbs (nn : Word) (s : State) : Result := .next (s.withOperand (.mem (.abs nn)) sbcA)

/-- `SBC (n),X` (R166). -/
def execSbcIndX (n : Byte) (s : State) : Result := .next (s.withOperand (.mem (.indX n)) sbcA)

/-- `SBC n,X` (R166). -/
def execSbcZpX (n : Byte) (s : State) : Result := .next (s.withOperand (.mem (.zpX n)) sbcA)

/-- `SBC nn,Y` (R166). -/
def execSbcAbsY (nn : Word) (s : State) : Result := .next (s.withOperand (.mem (.absY nn)) sbcA)

/-- `SBC nn,X` (R166). -/
def execSbcAbsX (nn : Word) (s : State) : Result := .next (s.withOperand (.mem (.absX nn)) sbcA)

/-- `AND (n)` (R167). -/
def execAndInd (n : Byte) (s : State) : Result := .next (s.withOperand (.mem (.ind n)) andA)

/-- `AND n` (R167). -/
def execAndZp (n : Byte) (s : State) : Result := .next (s.withOperand (.mem (.zp n)) andA)

/-- `AND #n` (R167). -/
def execAndImm (n : Byte) (s : State) : Result := .next (s.withOperand (.imm n) andA)

/-- `AND nn` (R167). -/
def execAndAbs (nn : Word) (s : State) : Result := .next (s.withOperand (.mem (.abs nn)) andA)

/-- `AND (n),X` (R167). -/
def execAndIndX (n : Byte) (s : State) : Result := .next (s.withOperand (.mem (.indX n)) andA)

/-- `AND n,X` (R167). -/
def execAndZpX (n : Byte) (s : State) : Result := .next (s.withOperand (.mem (.zpX n)) andA)

/-- `AND nn,Y` (R167). -/
def execAndAbsY (nn : Word) (s : State) : Result := .next (s.withOperand (.mem (.absY nn)) andA)

/-- `AND nn,X` (R167). -/
def execAndAbsX (nn : Word) (s : State) : Result := .next (s.withOperand (.mem (.absX nn)) andA)

/-- `ORA (n)` (R168). -/
def execOraInd (n : Byte) (s : State) : Result := .next (s.withOperand (.mem (.ind n)) oraA)

/-- `ORA n` (R168). -/
def execOraZp (n : Byte) (s : State) : Result := .next (s.withOperand (.mem (.zp n)) oraA)

/-- `ORA #n` (R168). -/
def execOraImm (n : Byte) (s : State) : Result := .next (s.withOperand (.imm n) oraA)

/-- `ORA nn` (R168). -/
def execOraAbs (nn : Word) (s : State) : Result := .next (s.withOperand (.mem (.abs nn)) oraA)

/-- `ORA (n),X` (R168). -/
def execOraIndX (n : Byte) (s : State) : Result := .next (s.withOperand (.mem (.indX n)) oraA)

/-- `ORA n,X` (R168). -/
def execOraZpX (n : Byte) (s : State) : Result := .next (s.withOperand (.mem (.zpX n)) oraA)

/-- `ORA nn,Y` (R168). -/
def execOraAbsY (nn : Word) (s : State) : Result := .next (s.withOperand (.mem (.absY nn)) oraA)

/-- `ORA nn,X` (R168). -/
def execOraAbsX (nn : Word) (s : State) : Result := .next (s.withOperand (.mem (.absX nn)) oraA)

/-- `EOR (n)` (R169). -/
def execEorInd (n : Byte) (s : State) : Result := .next (s.withOperand (.mem (.ind n)) eorA)

/-- `EOR n` (R169). -/
def execEorZp (n : Byte) (s : State) : Result := .next (s.withOperand (.mem (.zp n)) eorA)

/-- `EOR #n` (R169). -/
def execEorImm (n : Byte) (s : State) : Result := .next (s.withOperand (.imm n) eorA)

/-- `EOR nn` (R169). -/
def execEorAbs (nn : Word) (s : State) : Result := .next (s.withOperand (.mem (.abs nn)) eorA)

/-- `EOR (n),X` (R169). -/
def execEorIndX (n : Byte) (s : State) : Result := .next (s.withOperand (.mem (.indX n)) eorA)

/-- `EOR n,X` (R169). -/
def execEorZpX (n : Byte) (s : State) : Result := .next (s.withOperand (.mem (.zpX n)) eorA)

/-- `EOR nn,Y` (R169). -/
def execEorAbsY (nn : Word) (s : State) : Result := .next (s.withOperand (.mem (.absY nn)) eorA)

/-- `EOR nn,X` (R169). -/
def execEorAbsX (nn : Word) (s : State) : Result := .next (s.withOperand (.mem (.absX nn)) eorA)

/-- `BIT n` (R170). -/
def execBitZp (n : Byte) (s : State) : Result := .next (s.withOperand (.mem (.zp n)) bitA)

/-- `BIT nn` (R170). -/
def execBitAbs (nn : Word) (s : State) : Result := .next (s.withOperand (.mem (.abs nn)) bitA)

/-- `CMP (n)` (R172). -/
def execCmpInd (n : Byte) (s : State) : Result := .next (s.withOperand (.mem (.ind n)) cmpA)

/-- `CMP n` (R172). -/
def execCmpZp (n : Byte) (s : State) : Result := .next (s.withOperand (.mem (.zp n)) cmpA)

/-- `CMP #n` (R172). -/
def execCmpImm (n : Byte) (s : State) : Result := .next (s.withOperand (.imm n) cmpA)

/-- `CMP nn` (R172). -/
def execCmpAbs (nn : Word) (s : State) : Result := .next (s.withOperand (.mem (.abs nn)) cmpA)

/-- `CMP (n),X` (R172). -/
def execCmpIndX (n : Byte) (s : State) : Result := .next (s.withOperand (.mem (.indX n)) cmpA)

/-- `CMP n,X` (R172). -/
def execCmpZpX (n : Byte) (s : State) : Result := .next (s.withOperand (.mem (.zpX n)) cmpA)

/-- `CMP nn,Y` (R172). -/
def execCmpAbsY (nn : Word) (s : State) : Result := .next (s.withOperand (.mem (.absY nn)) cmpA)

/-- `CMP nn,X` (R172). -/
def execCmpAbsX (nn : Word) (s : State) : Result := .next (s.withOperand (.mem (.absX nn)) cmpA)

/-- `CPX #n` (R173). -/
def execCpxImm (n : Byte) (s : State) : Result := .next (s.withOperand (.imm n) cmpX)

/-- `CPX n` (R173). -/
def execCpxZp (n : Byte) (s : State) : Result := .next (s.withOperand (.mem (.zp n)) cmpX)

/-- `CPX nn` (R173). -/
def execCpxAbs (nn : Word) (s : State) : Result := .next (s.withOperand (.mem (.abs nn)) cmpX)

/-- `CPY #n` (R174). -/
def execCpyImm (n : Byte) (s : State) : Result := .next (s.withOperand (.imm n) cmpY)

/-- `CPY n` (R174). -/
def execCpyZp (n : Byte) (s : State) : Result := .next (s.withOperand (.mem (.zp n)) cmpY)

/-- `CPY nn` (R174). -/
def execCpyAbs (nn : Word) (s : State) : Result := .next (s.withOperand (.mem (.abs nn)) cmpY)

/-- `INC n` (R175). -/
def execIncZp (n : Byte) (s : State) : Result := .next (s.modify (.zp n) incByte)

/-- `INC nn` (R175). -/
def execIncAbs (nn : Word) (s : State) : Result := .next (s.modify (.abs nn) incByte)

/-- `INC n,X` (R175). -/
def execIncZpX (n : Byte) (s : State) : Result := .next (s.modify (.zpX n) incByte)

/-- `INC nn,X` (R175). -/
def execIncAbsX (nn : Word) (s : State) : Result := .next (s.modify (.absX nn) incByte)

/-- `DEC n` (R176). -/
def execDecZp (n : Byte) (s : State) : Result := .next (s.modify (.zp n) decByte)

/-- `DEC nn` (R176). -/
def execDecAbs (nn : Word) (s : State) : Result := .next (s.modify (.abs nn) decByte)

/-- `DEC n,X` (R176). -/
def execDecZpX (n : Byte) (s : State) : Result := .next (s.modify (.zpX n) decByte)

/-- `DEC nn,X` (R176). -/
def execDecAbsX (nn : Word) (s : State) : Result := .next (s.modify (.absX nn) decByte)

/-- `INX` (R177). -/
def execInx (s : State) : Result := .next (s.implied.loadX (s.x + 1))

/-- `INY` (R178). -/
def execIny (s : State) : Result := .next (s.implied.loadY (s.y + 1))

/-- `DEX` (R179). -/
def execDex (s : State) : Result := .next (s.implied.loadX (s.x - 1))

/-- `DEY` (R180). -/
def execDey (s : State) : Result := .next (s.implied.loadY (s.y - 1))

/-- `NEG A` (R181). -/
def execNegA (s : State) : Result := .next (s.modifyA negByte)

/-- `LAB A` (R182). -/
def execLabA (s : State) : Result := .next ((s.touch (s.pc + 1)).modifyA labByte)

end Sys2Proof.Machine
end

