-- ==== Sys2Proof/Machine/BitOps.lean ====
section
/-! DEFINITION. Bit manipulation and bit test-and-branch (spec/44_bit_ops.md):
the meaning of each instruction. -/

namespace Sys2Proof.Machine

/-- A read/modify/write of the byte at `ea` that writes no flag (R50, R210 to R213). -/
def State.changeByte (s : State) (ea : Word) (f : Byte → Byte) : State :=
  s.modifyAt ea fun t p => (f t, p)

/-- RMB and SMB (R210, R211): a byte in page zero. -/
def State.changeBit (s : State) (n : Byte) (f : Byte → Byte) : State :=
  (s.changeByte (zext n) f).advance 2

/-- RBA and SBA (R212, R213): a byte at an absolute address; A is any byte afterwards
(decision D17; DEDUCED, safe: log entry 6). -/
def State.maskBits (s : State) (nn : Word) (f : Byte → Byte) : State :=
  ((s.draw.2.setA s.draw.1).changeByte nn f).advance 4

/-- BBR and BBS (R214, R215): the byte is read twice, the second time ignored (R48), and only then
the offset, byte 3 of the instruction, is fetched (R49). -/
def State.testBit (s : State) (n : Byte) (cond : Byte → Bool) (r : Byte) : State :=
  (((s.touch (zext n)).touch (zext n)).touch (s.pc + 2)).bitBranch (cond (s.peek (zext n))) 3 r

/-- BAR and BAS (R216, R217): the byte is read once, and only then the mask, byte 4 of the
instruction, is fetched (twice: the second time ignored, R48) and the offset, byte 5 (R49). -/
def State.maskBranch (s : State) (nn : Word) (cond : Byte → Bool) (r : Byte) : State :=
  ((((s.touch nn).touch (s.pc + 3)).touch (s.pc + 3)).touch (s.pc + 4)).bitBranch
    (cond (s.peek nn)) 5 r

/-- `RMB 0,n` (R210). -/
def execRmb0 (n : Byte) (s : State) : Result := .next (s.changeBit n fun t => t &&& ~~~bitMask 0)

/-- `RMB 1,n` (R210). -/
def execRmb1 (n : Byte) (s : State) : Result := .next (s.changeBit n fun t => t &&& ~~~bitMask 1)

/-- `RMB 2,n` (R210). -/
def execRmb2 (n : Byte) (s : State) : Result := .next (s.changeBit n fun t => t &&& ~~~bitMask 2)

/-- `RMB 3,n` (R210). -/
def execRmb3 (n : Byte) (s : State) : Result := .next (s.changeBit n fun t => t &&& ~~~bitMask 3)

/-- `RMB 4,n` (R210). -/
def execRmb4 (n : Byte) (s : State) : Result := .next (s.changeBit n fun t => t &&& ~~~bitMask 4)

/-- `RMB 5,n` (R210). -/
def execRmb5 (n : Byte) (s : State) : Result := .next (s.changeBit n fun t => t &&& ~~~bitMask 5)

/-- `RMB 6,n` (R210). -/
def execRmb6 (n : Byte) (s : State) : Result := .next (s.changeBit n fun t => t &&& ~~~bitMask 6)

/-- `RMB 7,n` (R210). -/
def execRmb7 (n : Byte) (s : State) : Result := .next (s.changeBit n fun t => t &&& ~~~bitMask 7)

/-- `SMB 0,n` (R211). -/
def execSmb0 (n : Byte) (s : State) : Result := .next (s.changeBit n fun t => t ||| bitMask 0)

/-- `SMB 1,n` (R211). -/
def execSmb1 (n : Byte) (s : State) : Result := .next (s.changeBit n fun t => t ||| bitMask 1)

/-- `SMB 2,n` (R211). -/
def execSmb2 (n : Byte) (s : State) : Result := .next (s.changeBit n fun t => t ||| bitMask 2)

/-- `SMB 3,n` (R211). -/
def execSmb3 (n : Byte) (s : State) : Result := .next (s.changeBit n fun t => t ||| bitMask 3)

/-- `SMB 4,n` (R211). -/
def execSmb4 (n : Byte) (s : State) : Result := .next (s.changeBit n fun t => t ||| bitMask 4)

/-- `SMB 5,n` (R211). -/
def execSmb5 (n : Byte) (s : State) : Result := .next (s.changeBit n fun t => t ||| bitMask 5)

/-- `SMB 6,n` (R211). -/
def execSmb6 (n : Byte) (s : State) : Result := .next (s.changeBit n fun t => t ||| bitMask 6)

/-- `SMB 7,n` (R211). -/
def execSmb7 (n : Byte) (s : State) : Result := .next (s.changeBit n fun t => t ||| bitMask 7)

/-- `RBA bm,nn` (R212). -/
def execRba (bm : Byte) (nn : Word) (s : State) : Result :=
  .next (s.maskBits nn fun t => t &&& ~~~bm)

/-- `SBA bm,nn` (R213). -/
def execSba (bm : Byte) (nn : Word) (s : State) : Result := .next (s.maskBits nn fun t => t ||| bm)

/-- `BBR 0,n,Dest` (R214). -/
def execBbr0 (n : Byte) (r : Byte) (s : State) : Result :=
  .next (s.testBit n (fun t => !bitOf t 0) r)

/-- `BBR 1,n,Dest` (R214). -/
def execBbr1 (n : Byte) (r : Byte) (s : State) : Result :=
  .next (s.testBit n (fun t => !bitOf t 1) r)

/-- `BBR 2,n,Dest` (R214). -/
def execBbr2 (n : Byte) (r : Byte) (s : State) : Result :=
  .next (s.testBit n (fun t => !bitOf t 2) r)

/-- `BBR 3,n,Dest` (R214). -/
def execBbr3 (n : Byte) (r : Byte) (s : State) : Result :=
  .next (s.testBit n (fun t => !bitOf t 3) r)

/-- `BBR 4,n,Dest` (R214). -/
def execBbr4 (n : Byte) (r : Byte) (s : State) : Result :=
  .next (s.testBit n (fun t => !bitOf t 4) r)

/-- `BBR 5,n,Dest` (R214). -/
def execBbr5 (n : Byte) (r : Byte) (s : State) : Result :=
  .next (s.testBit n (fun t => !bitOf t 5) r)

/-- `BBR 6,n,Dest` (R214). -/
def execBbr6 (n : Byte) (r : Byte) (s : State) : Result :=
  .next (s.testBit n (fun t => !bitOf t 6) r)

/-- `BBR 7,n,Dest` (R214). -/
def execBbr7 (n : Byte) (r : Byte) (s : State) : Result :=
  .next (s.testBit n (fun t => !bitOf t 7) r)

/-- `BBS 0,n,Dest` (R215). -/
def execBbs0 (n : Byte) (r : Byte) (s : State) : Result :=
  .next (s.testBit n (fun t => bitOf t 0) r)

/-- `BBS 1,n,Dest` (R215). -/
def execBbs1 (n : Byte) (r : Byte) (s : State) : Result :=
  .next (s.testBit n (fun t => bitOf t 1) r)

/-- `BBS 2,n,Dest` (R215). -/
def execBbs2 (n : Byte) (r : Byte) (s : State) : Result :=
  .next (s.testBit n (fun t => bitOf t 2) r)

/-- `BBS 3,n,Dest` (R215). -/
def execBbs3 (n : Byte) (r : Byte) (s : State) : Result :=
  .next (s.testBit n (fun t => bitOf t 3) r)

/-- `BBS 4,n,Dest` (R215). -/
def execBbs4 (n : Byte) (r : Byte) (s : State) : Result :=
  .next (s.testBit n (fun t => bitOf t 4) r)

/-- `BBS 5,n,Dest` (R215). -/
def execBbs5 (n : Byte) (r : Byte) (s : State) : Result :=
  .next (s.testBit n (fun t => bitOf t 5) r)

/-- `BBS 6,n,Dest` (R215). -/
def execBbs6 (n : Byte) (r : Byte) (s : State) : Result :=
  .next (s.testBit n (fun t => bitOf t 6) r)

/-- `BBS 7,n,Dest` (R215). -/
def execBbs7 (n : Byte) (r : Byte) (s : State) : Result :=
  .next (s.testBit n (fun t => bitOf t 7) r)

/-- `BAR nn,bm,Dest` (R216). -/
def execBar (nn : Word) (bm : Byte) (r : Byte) (s : State) : Result :=
  .next (s.maskBranch nn (fun t => decide (~~~t &&& bm ≠ 0)) r)

/-- `BAS nn,bm,Dest` (R217). -/
def execBas (nn : Word) (bm : Byte) (r : Byte) (s : State) : Result :=
  .next (s.maskBranch nn (fun t => decide (t &&& bm ≠ 0)) r)

end Sys2Proof.Machine
end

