-- ==== Sys2Proof/Machine/Branch.lean ====
section
/-! DEFINITION. Branch, jump, subroutine, return and break (spec/45_branch_jump.md):
the meaning of each instruction. -/

namespace Sys2Proof.Machine

/-- JMP (nn) (R231): the pointer is incremented as 16 bits (R112). -/
def State.jumpThrough (s : State) (ptr : Word) : State :=
  (s.read16 ptr).2.setPc (s.read16 ptr).1

/-- JMP (nn,X) (R232): one ignored read in the uncorrected page, always (R48), then the pointer. -/
def State.jumpIndexed (s : State) (nn : Word) : State :=
  (s.touch (uncorrected nn s.x)).jumpThrough (nn + zext s.x)

/-- `JSB_VECTOR(n)` (R120, R234). -/
def jsbVector (n : Fin 8) : Word := 0xFFE0 + BitVec.ofNat 16 (2 * n.val)

/-- JSB (R234): push pc + 1, then jump through the vector. -/
def State.jumpVector (s : State) (n : Fin 8) : State :=
  ((s.touch (s.pc + 1)).push16 (s.pc + 1)).jumpThrough (jsbVector n)

/-- RTS (R235): two ignored reads of pc + 1 (R48, C30); the address pulled is used as it is. -/
def State.returnFromSubroutine (s : State) : State :=
  let r := (s.touchTimes 2 (s.pc + 1)).pull16
  r.2.setPc r.1

/-- BRK (R237, R301): the exception with the return address pc + `BRK_RETURN_OFFSET`, the vector
`BRK_VECTOR` and B set after P is pushed. -/
def State.softwareBreak (s : State) : State :=
  (s.touch (s.pc + 1)).takeException (s.pc + s.params.brkReturnOffset) s.params.brkVector true

/-- `BCC Dest` (R221). -/
def execBcc (r : Byte) (s : State) : Result := .next (s.branch (!s.p.c) r)

/-- `BCS Dest` (R222). -/
def execBcs (r : Byte) (s : State) : Result := .next (s.branch s.p.c r)

/-- `BEQ Dest` (R223). -/
def execBeq (r : Byte) (s : State) : Result := .next (s.branch s.p.z r)

/-- `BMI Dest` (R224). -/
def execBmi (r : Byte) (s : State) : Result := .next (s.branch s.p.n r)

/-- `BNE Dest` (R225). -/
def execBne (r : Byte) (s : State) : Result := .next (s.branch (!s.p.z) r)

/-- `BPL Dest` (R226). -/
def execBpl (r : Byte) (s : State) : Result := .next (s.branch (!s.p.n) r)

/-- `BVC Dest` (R227). -/
def execBvc (r : Byte) (s : State) : Result := .next (s.branch (!s.p.v) r)

/-- `BVS Dest` (R228). -/
def execBvs (r : Byte) (s : State) : Result := .next (s.branch s.p.v r)

/-- `BRA Dest` (R229). -/
def execBra (r : Byte) (s : State) : Result := .next (s.branch true r)

/-- `JMP nn` (R230). -/
def execJmpAbs (nn : Word) (s : State) : Result := .next (s.setPc nn)

/-- `JMP (nn)` (R231). -/
def execJmpInd (nn : Word) (s : State) : Result := .next (s.jumpThrough nn)

/-- `JMP (nn,X)` (R232). -/
def execJmpIndX (nn : Word) (s : State) : Result := .next (s.jumpIndexed nn)

/-- `JSR nn` (R233). -/
def execJsr (nn : Word) (s : State) : Result := .next ((s.push16 (s.pc + 3)).setPc nn)

/-- `JSB 0` (R234). -/
def execJsb0 (s : State) : Result := .next (s.jumpVector 0)

/-- `JSB 1` (R234). -/
def execJsb1 (s : State) : Result := .next (s.jumpVector 1)

/-- `JSB 2` (R234). -/
def execJsb2 (s : State) : Result := .next (s.jumpVector 2)

/-- `JSB 3` (R234). -/
def execJsb3 (s : State) : Result := .next (s.jumpVector 3)

/-- `JSB 4` (R234). -/
def execJsb4 (s : State) : Result := .next (s.jumpVector 4)

/-- `JSB 5` (R234). -/
def execJsb5 (s : State) : Result := .next (s.jumpVector 5)

/-- `JSB 6` (R234). -/
def execJsb6 (s : State) : Result := .next (s.jumpVector 6)

/-- `JSB 7` (R234). -/
def execJsb7 (s : State) : Result := .next (s.jumpVector 7)

/-- `RTS` (R235). -/
def execRts (s : State) : Result := .next s.returnFromSubroutine

/-- `RTI` (R236). -/
def execRti (s : State) : Result := .next (s.touchTimes 2 (s.pc + 1)).returnFromException

/-- `BRK` (R237). -/
def execBrk (s : State) : Result := .next s.softwareBreak

end Sys2Proof.Machine
end

