-- ==== Sys2Proof/Machine/FlagOps.lean ====
section
/-! DEFINITION. Flag set and clear, and NOP (spec/48_flags_nop.md):
the meaning of each instruction. -/

namespace Sys2Proof.Machine

/-- `CLC` (R280). -/
def execClc (s : State) : Result := .next (s.implied.setP { s.p with c := false })

/-- `CLD` (R281). -/
def execCld (s : State) : Result := .next (s.implied.setP { s.p with d := false })

/-- `CLI` (R282). -/
def execCli (s : State) : Result := .next (s.implied.setP { s.p with i := false })

/-- `CLV` (R283). -/
def execClv (s : State) : Result := .next (s.implied.setP { s.p with v := false })

/-- `SEC` (R284). -/
def execSec (s : State) : Result := .next (s.implied.setP { s.p with c := true })

/-- `SED` (R285). -/
def execSed (s : State) : Result := .next (s.implied.setP { s.p with d := true })

/-- `SEI` (R286). -/
def execSei (s : State) : Result := .next (s.implied.setP { s.p with i := true })

/-- `NOP` (R287). -/
def execNop (s : State) : Result := .next s.implied

end Sys2Proof.Machine
end

