-- ==== Sys2Proof/Machine/LoadStore.lean ====
section
/-! DEFINITION. Load, store and register transfer (spec/41_load_store_transfer.md):
the meaning of each instruction. -/

namespace Sys2Proof.Machine

/-- EXC (R137): read, then write the old A at the same address, then `A <- t`; no flag. -/
def State.exchange (s : State) (m : Mode) : State :=
  let r := s.resolve .write m
  let t := r.2.read r.1
  ((t.2.write r.1 s.a).setA t.1).advance (modeLength m)

/-- `LDA (n)` (R130). -/
def execLdaInd (n : Byte) (s : State) : Result := .next (s.withOperand (.mem (.ind n)) State.loadA)

/-- `LDA n` (R130). -/
def execLdaZp (n : Byte) (s : State) : Result := .next (s.withOperand (.mem (.zp n)) State.loadA)

/-- `LDA #n` (R130). -/
def execLdaImm (n : Byte) (s : State) : Result := .next (s.withOperand (.imm n) State.loadA)

/-- `LDA nn` (R130). -/
def execLdaAbs (nn : Word) (s : State) : Result :=
  .next (s.withOperand (.mem (.abs nn)) State.loadA)

/-- `LDA (n),X` (R130). -/
def execLdaIndX (n : Byte) (s : State) : Result :=
  .next (s.withOperand (.mem (.indX n)) State.loadA)

/-- `LDA n,X` (R130). -/
def execLdaZpX (n : Byte) (s : State) : Result := .next (s.withOperand (.mem (.zpX n)) State.loadA)

/-- `LDA nn,Y` (R130). -/
def execLdaAbsY (nn : Word) (s : State) : Result :=
  .next (s.withOperand (.mem (.absY nn)) State.loadA)

/-- `LDA nn,X` (R130). -/
def execLdaAbsX (nn : Word) (s : State) : Result :=
  .next (s.withOperand (.mem (.absX nn)) State.loadA)

/-- `LDX #n` (R131). -/
def execLdxImm (n : Byte) (s : State) : Result := .next (s.withOperand (.imm n) State.loadX)

/-- `LDX n` (R131). -/
def execLdxZp (n : Byte) (s : State) : Result := .next (s.withOperand (.mem (.zp n)) State.loadX)

/-- `LDX nn` (R131). -/
def execLdxAbs (nn : Word) (s : State) : Result :=
  .next (s.withOperand (.mem (.abs nn)) State.loadX)

/-- `LDX n,Y` (R131). -/
def execLdxZpY (n : Byte) (s : State) : Result := .next (s.withOperand (.mem (.zpY n)) State.loadX)

/-- `LDX nn,Y` (R131). -/
def execLdxAbsY (nn : Word) (s : State) : Result :=
  .next (s.withOperand (.mem (.absY nn)) State.loadX)

/-- `LDY #n` (R132). -/
def execLdyImm (n : Byte) (s : State) : Result := .next (s.withOperand (.imm n) State.loadY)

/-- `LDY n` (R132). -/
def execLdyZp (n : Byte) (s : State) : Result := .next (s.withOperand (.mem (.zp n)) State.loadY)

/-- `LDY nn` (R132). -/
def execLdyAbs (nn : Word) (s : State) : Result :=
  .next (s.withOperand (.mem (.abs nn)) State.loadY)

/-- `LDY n,X` (R132). -/
def execLdyZpX (n : Byte) (s : State) : Result := .next (s.withOperand (.mem (.zpX n)) State.loadY)

/-- `LDY nn,X` (R132). -/
def execLdyAbsX (nn : Word) (s : State) : Result :=
  .next (s.withOperand (.mem (.absX nn)) State.loadY)

/-- `STA (n)` (R133). -/
def execStaInd (n : Byte) (s : State) : Result := .next (s.storeTo (.ind n) s.a)

/-- `STA n` (R133). -/
def execStaZp (n : Byte) (s : State) : Result := .next (s.storeTo (.zp n) s.a)

/-- `STA nn` (R133). -/
def execStaAbs (nn : Word) (s : State) : Result := .next (s.storeTo (.abs nn) s.a)

/-- `STA (n),X` (R133). -/
def execStaIndX (n : Byte) (s : State) : Result := .next (s.storeTo (.indX n) s.a)

/-- `STA n,X` (R133). -/
def execStaZpX (n : Byte) (s : State) : Result := .next (s.storeTo (.zpX n) s.a)

/-- `STA nn,Y` (R133). -/
def execStaAbsY (nn : Word) (s : State) : Result := .next (s.storeTo (.absY nn) s.a)

/-- `STA nn,X` (R133). -/
def execStaAbsX (nn : Word) (s : State) : Result := .next (s.storeTo (.absX nn) s.a)

/-- `STX n` (R134). -/
def execStxZp (n : Byte) (s : State) : Result := .next (s.storeTo (.zp n) s.x)

/-- `STX nn` (R134). -/
def execStxAbs (nn : Word) (s : State) : Result := .next (s.storeTo (.abs nn) s.x)

/-- `STX n,Y` (R134). -/
def execStxZpY (n : Byte) (s : State) : Result := .next (s.storeTo (.zpY n) s.x)

/-- `STY n` (R135). -/
def execStyZp (n : Byte) (s : State) : Result := .next (s.storeTo (.zp n) s.y)

/-- `STY nn` (R135). -/
def execStyAbs (nn : Word) (s : State) : Result := .next (s.storeTo (.abs nn) s.y)

/-- `STY n,X` (R135). -/
def execStyZpX (n : Byte) (s : State) : Result := .next (s.storeTo (.zpX n) s.y)

/-- `STI #n1,n2` (R136). -/
def execSti (n1 : Byte) (n2 : Byte) (s : State) : Result := .next ((s.write (zext n2) n1).advance 3)

/-- `EXC n,X` (R137). -/
def execExc (n : Byte) (s : State) : Result := .next (s.exchange (.zpX n))

/-- `TAX` (R138). -/
def execTax (s : State) : Result := .next (s.implied.loadX s.a)

/-- `TAY` (R139). -/
def execTay (s : State) : Result := .next (s.implied.loadY s.a)

/-- `TXA` (R140). -/
def execTxa (s : State) : Result := .next (s.implied.loadA s.x)

/-- `TYA` (R141). -/
def execTya (s : State) : Result := .next (s.implied.loadA s.y)

/-- `TSX` (R142). -/
def execTsx (s : State) : Result := .next (s.implied.loadX s.sp)

/-- `TXS` (R143). -/
def execTxs (s : State) : Result := .next (s.implied.setSp s.x)

end Sys2Proof.Machine
end

