-- ==== Sys2Proof/Machine/Shift.lean ====
section
/-! DEFINITION. Shift, rotate, multiply and W register (spec/43_shift_multiply_w.md):
the meaning of each instruction. -/

namespace Sys2Proof.Machine

/-- `PC <- npc` after the five ignored reads of pc + 1 that MPY and MPA make (R48). -/
def State.impliedMultiply (s : State) : State := (s.touchTimes 5 (s.pc + 1)).advance 1

/-- MPY (R195): the product's high byte in A, its low byte in Y; V = 0, N from A; Z and C stay. -/
def State.multiply (s : State) : State :=
  let q := mpyWord s.a s.y
  ((s.impliedMultiply.setA (hiByte q)).setY (loByte q)).setP
    { s.p with n := (hiByte q).msb, v := false }

/-- MPA (R196): W takes the saturated sum; N from the W that is left (decision D18, log entry 14);
Y is any byte (decision D17; DEDUCED, safe: log entry 6). -/
def State.multiplyAccumulate (s : State) : State :=
  let t := mpaWord s.w s.a s.y
  let y := s.impliedMultiply.draw
  ((y.2.setW t.1).setY y.1).setP { s.p with n := t.1.msb, v := t.2 }

/-- Y after RND (R197): any byte when the rounding overflows (decision D17), else unchanged. -/
def State.roundY (s : State) (w : Word) : State :=
  if rndOverflows w then s.draw.2.setY s.draw.1 else s

/-- RND (R197): `WH + WL7`, saturated, in A; W stays; N from A, V says that it saturated. -/
def State.round (s : State) : State :=
  ((s.implied.roundY s.w).setA (rndByte s.w)).setP
    { s.p with n := (rndByte s.w).msb, v := rndOverflows s.w }

/-- `ASL n` (R190). -/
def execAslZp (n : Byte) (s : State) : Result := .next (s.modify (.zp n) aslByte)

/-- `ASL A` (R190). -/
def execAslA (s : State) : Result := .next (s.modifyA aslByte)

/-- `ASL nn` (R190). -/
def execAslAbs (nn : Word) (s : State) : Result := .next (s.modify (.abs nn) aslByte)

/-- `ASL n,X` (R190). -/
def execAslZpX (n : Byte) (s : State) : Result := .next (s.modify (.zpX n) aslByte)

/-- `ASL nn,X` (R190). -/
def execAslAbsX (nn : Word) (s : State) : Result := .next (s.modify (.absX nn) aslByte)

/-- `LSR n` (R191). -/
def execLsrZp (n : Byte) (s : State) : Result := .next (s.modify (.zp n) lsrByte)

/-- `LSR A` (R191). -/
def execLsrA (s : State) : Result := .next (s.modifyA lsrByte)

/-- `LSR nn` (R191). -/
def execLsrAbs (nn : Word) (s : State) : Result := .next (s.modify (.abs nn) lsrByte)

/-- `LSR n,X` (R191). -/
def execLsrZpX (n : Byte) (s : State) : Result := .next (s.modify (.zpX n) lsrByte)

/-- `LSR nn,X` (R191). -/
def execLsrAbsX (nn : Word) (s : State) : Result := .next (s.modify (.absX nn) lsrByte)

/-- `ROL n` (R192). -/
def execRolZp (n : Byte) (s : State) : Result := .next (s.modify (.zp n) rolByte)

/-- `ROL A` (R192). -/
def execRolA (s : State) : Result := .next (s.modifyA rolByte)

/-- `ROL nn` (R192). -/
def execRolAbs (nn : Word) (s : State) : Result := .next (s.modify (.abs nn) rolByte)

/-- `ROL n,X` (R192). -/
def execRolZpX (n : Byte) (s : State) : Result := .next (s.modify (.zpX n) rolByte)

/-- `ROL nn,X` (R192). -/
def execRolAbsX (nn : Word) (s : State) : Result := .next (s.modify (.absX nn) rolByte)

/-- `ROR n` (R193). -/
def execRorZp (n : Byte) (s : State) : Result := .next (s.modify (.zp n) rorByte)

/-- `ROR A` (R193). -/
def execRorA (s : State) : Result := .next (s.modifyA rorByte)

/-- `ROR nn` (R193). -/
def execRorAbs (nn : Word) (s : State) : Result := .next (s.modify (.abs nn) rorByte)

/-- `ROR n,X` (R193). -/
def execRorZpX (n : Byte) (s : State) : Result := .next (s.modify (.zpX n) rorByte)

/-- `ROR nn,X` (R193). -/
def execRorAbsX (nn : Word) (s : State) : Result := .next (s.modify (.absX nn) rorByte)

/-- `ASR A` (R194). -/
def execAsrA (s : State) : Result := .next (s.modifyA asrByte)

/-- `MPY` (R195). -/
def execMpy (s : State) : Result := .next s.multiply

/-- `MPA` (R196). -/
def execMpa (s : State) : Result := .next s.multiplyAccumulate

/-- `RND` (R197). -/
def execRnd (s : State) : Result := .next s.round

/-- `TAW` (R198). -/
def execTaw (s : State) : Result := .next ((s.implied.setW (wordOf s.a 0)).setP (s.p.setNZ s.a))

/-- `TWA` (R199). -/
def execTwa (s : State) : Result := .next (s.implied.loadA (hiByte s.w))

/-- `CLW` (R200). -/
def execClw (s : State) : Result := .next ((s.implied.setW 0).setP { s.p with v := false })

end Sys2Proof.Machine
end

