-- ==== Sys2Proof/Machine/StackOps.lean ====
section
/-! DEFINITION. Stack (spec/46_stack.md):
the meaning of each instruction. -/

namespace Sys2Proof.Machine

/-- What every pull instruction does before its first pull (R257, R48): an ignored read of pc + 1
and one of the stack at the old S; `PC <- npc`. -/
def State.impliedPull (s : State) : State := s.implied.touch (stackAddr s.sp)

/-- PLA (R259). -/
def State.pullA (s : State) : State :=
  let v := s.impliedPull.pull
  v.2.loadA v.1

/-- PLP (R260). -/
def State.pullP (s : State) : State :=
  let v := s.impliedPull.pull
  v.2.setP (restoreP v.1 s.p)

/-- PLX (R261). -/
def State.pullX (s : State) : State :=
  let v := s.impliedPull.pull
  v.2.loadX v.1

/-- PLY (R262). -/
def State.pullY (s : State) : State :=
  let v := s.impliedPull.pull
  v.2.loadY v.1

/-- PLW (R263). -/
def State.pullW (s : State) : State :=
  let v := s.impliedPull.pull16
  v.2.setW v.1

/-- PLI (R264): one more ignored read, at the new I (R48). -/
def State.pullI (s : State) : State :=
  let v := s.impliedPull.pull16
  (v.2.setIreg v.1).touch v.1

/-- PUL (R265): Y, X and A in this order, no flag. -/
def State.pullYXA (s : State) : State :=
  let y := s.impliedPull.pull
  let x := y.2.pull
  let a := x.2.pull
  ((a.2.setY y.1).setX x.1).setA a.1

/-- PIA (R266): I, then the byte at I to A, and to X where `PIA_LOADS_X` (conflict C13), then I +
1. -/
def State.pullIA (s : State) : State :=
  let v := s.impliedPull.pull16
  let t := v.2.read v.1
  let s1 := if s.params.piaLoadsX then t.2.setX t.1 else t.2
  (s1.loadA t.1).setIreg (v.1 + 1)

/-- `PHA` (R251). -/
def execPha (s : State) : Result := .next (s.implied.push s.a)

/-- `PHP` (R252). -/
def execPhp (s : State) : Result := .next (s.implied.push (pByte s.params.pBit5 s.p))

/-- `PHX` (R253). -/
def execPhx (s : State) : Result := .next (s.implied.push s.x)

/-- `PHY` (R254). -/
def execPhy (s : State) : Result := .next (s.implied.push s.y)

/-- `PHW` (R255). -/
def execPhw (s : State) : Result := .next (s.implied.push16 s.w)

/-- `PHI` (R256). -/
def execPhi (s : State) : Result := .next (s.implied.push16 s.ireg)

/-- `PSH` (R258). -/
def execPsh (s : State) : Result := .next (((s.implied.push s.a).push s.x).push s.y)

/-- `PLA` (R259). -/
def execPla (s : State) : Result := .next s.pullA

/-- `PLP` (R260). -/
def execPlp (s : State) : Result := .next s.pullP

/-- `PLX` (R261). -/
def execPlx (s : State) : Result := .next s.pullX

/-- `PLY` (R262). -/
def execPly (s : State) : Result := .next s.pullY

/-- `PLW` (R263). -/
def execPlw (s : State) : Result := .next s.pullW

/-- `PLI` (R264). -/
def execPli (s : State) : Result := .next s.pullI

/-- `PUL` (R265). -/
def execPul (s : State) : Result := .next s.pullYXA

/-- `PIA` (R266). -/
def execPia (s : State) : Result := .next s.pullIA

end Sys2Proof.Machine
end

