-- ==== Sys2Proof/Machine/Threaded.lean ====
section
/-! DEFINITION. Threaded code (spec/47_threaded.md):
the meaning of each instruction. -/

namespace Sys2Proof.Machine

/-- The byte at I and the state after reading it (R272, R273). -/
def State.readThroughI (s : State) : Byte × State := s.read s.ireg

/-- NXT (R270): both bytes are read with the old I; nothing is pushed. -/
def State.nextInstruction (s : State) : State :=
  let v := (s.touch (s.pc + 1)).read16 s.ireg
  (v.2.setPc v.1).setIreg (s.ireg + 2)

/-- LII (R271): both bytes are read before I changes; one ignored read at the new I (R48). -/
def State.loadIIndirect (s : State) : State :=
  let v := s.implied.read16 s.ireg
  (v.2.setIreg v.1).touch v.1

/-- JPI (R275): the double indirection of conflict C14; the return address goes to I. -/
def State.jumpSavingI (s : State) (ia : Word) : State :=
  let v := s.read16 ia
  (v.2.setIreg (s.pc + 3)).setPc v.1

/-- `NXT` (R270). -/
def execNxt (s : State) : Result := .next s.nextInstruction

/-- `LII` (R271). -/
def execLii (s : State) : Result := .next s.loadIIndirect

/-- `LAI` (R272). -/
def execLai (s : State) : Result := .next (s.implied.readThroughI.2.setA s.implied.readThroughI.1)

/-- `LAN` (R273). -/
def execLan (s : State) : Result :=
  .next ((s.implied.readThroughI.2.setA s.implied.readThroughI.1).setIreg (s.ireg + 1))

/-- `INI` (R274). -/
def execIni (s : State) : Result := .next ((s.implied.touch s.ireg).setIreg (s.ireg + 1))

/-- `JPI (nn)` (R275). -/
def execJpi (nn : Word) (s : State) : Result := .next (s.jumpSavingI nn)

/-- `TIP` (R276). -/
def execTip (s : State) : Result := .next (s.implied.setPc s.ireg)

end Sys2Proof.Machine
end

