-- ==== Sys2Proof/Syntax.lean ====
section
/-! DEFINITION. The instructions: one constructor for each of the 229 defined op codes
(spec/30_encoding.md R74, spec/opcode_table.json).  The operands of a constructor are exactly the
operand bytes of its format (R71), so every value of them is one the encoding admits (R76). -/

namespace Sys2Proof

/-- An instruction.  `n` is an immediate or a page zero address, `nn` an absolute address, `r` a
relative offset, `bm` a mask (R71).  The number in RMB, SMB, BBR, BBS and JSB is the field in bits 6
to 4 of the op code (R72). -/
inductive Instr where
  /-- A1, LDA (n) (R130) -/
  | ldaInd (n : Byte)
  /-- A5, LDA n (R130) -/
  | ldaZp (n : Byte)
  /-- A9, LDA #n (R130) -/
  | ldaImm (n : Byte)
  /-- AD, LDA nn (R130) -/
  | ldaAbs (nn : Word)
  /-- B1, LDA (n),X (R130) -/
  | ldaIndX (n : Byte)
  /-- B5, LDA n,X (R130) -/
  | ldaZpX (n : Byte)
  /-- B9, LDA nn,Y (R130) -/
  | ldaAbsY (nn : Word)
  /-- BD, LDA nn,X (R130) -/
  | ldaAbsX (nn : Word)
  /-- A2, LDX #n (R131) -/
  | ldxImm (n : Byte)
  /-- A6, LDX n (R131) -/
  | ldxZp (n : Byte)
  /-- AE, LDX nn (R131) -/
  | ldxAbs (nn : Word)
  /-- B6, LDX n,Y (R131) -/
  | ldxZpY (n : Byte)
  /-- BE, LDX nn,Y (R131) -/
  | ldxAbsY (nn : Word)
  /-- A0, LDY #n (R132) -/
  | ldyImm (n : Byte)
  /-- A4, LDY n (R132) -/
  | ldyZp (n : Byte)
  /-- AC, LDY nn (R132) -/
  | ldyAbs (nn : Word)
  /-- B4, LDY n,X (R132) -/
  | ldyZpX (n : Byte)
  /-- BC, LDY nn,X (R132) -/
  | ldyAbsX (nn : Word)
  /-- 81, STA (n) (R133) -/
  | staInd (n : Byte)
  /-- 85, STA n (R133) -/
  | staZp (n : Byte)
  /-- 8D, STA nn (R133) -/
  | staAbs (nn : Word)
  /-- 91, STA (n),X (R133) -/
  | staIndX (n : Byte)
  /-- 95, STA n,X (R133) -/
  | staZpX (n : Byte)
  /-- 99, STA nn,Y (R133) -/
  | staAbsY (nn : Word)
  /-- 9D, STA nn,X (R133) -/
  | staAbsX (nn : Word)
  /-- 86, STX n (R134) -/
  | stxZp (n : Byte)
  /-- 8E, STX nn (R134) -/
  | stxAbs (nn : Word)
  /-- 96, STX n,Y (R134) -/
  | stxZpY (n : Byte)
  /-- 84, STY n (R135) -/
  | styZp (n : Byte)
  /-- 8C, STY nn (R135) -/
  | styAbs (nn : Word)
  /-- 94, STY n,X (R135) -/
  | styZpX (n : Byte)
  /-- B2, STI #n1,n2 (R136) -/
  | sti (n1 : Byte) (n2 : Byte)
  /-- D4, EXC n,X (R137) -/
  | exc (n : Byte)
  /-- AA, TAX (R138) -/
  | tax
  /-- A8, TAY (R139) -/
  | tay
  /-- 8A, TXA (R140) -/
  | txa
  /-- 98, TYA (R141) -/
  | tya
  /-- BA, TSX (R142) -/
  | tsx
  /-- 9A, TXS (R143) -/
  | txs
  /-- 61, ADC (n) (R162) -/
  | adcInd (n : Byte)
  /-- 65, ADC n (R162) -/
  | adcZp (n : Byte)
  /-- 69, ADC #n (R162) -/
  | adcImm (n : Byte)
  /-- 6D, ADC nn (R162) -/
  | adcAbs (nn : Word)
  /-- 71, ADC (n),X (R162) -/
  | adcIndX (n : Byte)
  /-- 75, ADC n,X (R162) -/
  | adcZpX (n : Byte)
  /-- 79, ADC nn,Y (R162) -/
  | adcAbsY (nn : Word)
  /-- 7D, ADC nn,X (R162) -/
  | adcAbsX (nn : Word)
  /-- 64, ADD n (R163) -/
  | addZp (n : Byte)
  /-- 74, ADD n,X (R163) -/
  | addZpX (n : Byte)
  /-- 89, ADD #n (R163) -/
  | addImm (n : Byte)
  /-- E1, SBC (n) (R166) -/
  | sbcInd (n : Byte)
  /-- E5, SBC n (R166) -/
  | sbcZp (n : Byte)
  /-- E9, SBC #n (R166) -/
  | sbcImm (n : Byte)
  /-- ED, SBC nn (R166) -/
  | sbcAbs (nn : Word)
  /-- F1, SBC (n),X (R166) -/
  | sbcIndX (n : Byte)
  /-- F5, SBC n,X (R166) -/
  | sbcZpX (n : Byte)
  /-- F9, SBC nn,Y (R166) -/
  | sbcAbsY (nn : Word)
  /-- FD, SBC nn,X (R166) -/
  | sbcAbsX (nn : Word)
  /-- 21, AND (n) (R167) -/
  | andInd (n : Byte)
  /-- 25, AND n (R167) -/
  | andZp (n : Byte)
  /-- 29, AND #n (R167) -/
  | andImm (n : Byte)
  /-- 2D, AND nn (R167) -/
  | andAbs (nn : Word)
  /-- 31, AND (n),X (R167) -/
  | andIndX (n : Byte)
  /-- 35, AND n,X (R167) -/
  | andZpX (n : Byte)
  /-- 39, AND nn,Y (R167) -/
  | andAbsY (nn : Word)
  /-- 3D, AND nn,X (R167) -/
  | andAbsX (nn : Word)
  /-- 01, ORA (n) (R168) -/
  | oraInd (n : Byte)
  /-- 05, ORA n (R168) -/
  | oraZp (n : Byte)
  /-- 09, ORA #n (R168) -/
  | oraImm (n : Byte)
  /-- 0D, ORA nn (R168) -/
  | oraAbs (nn : Word)
  /-- 11, ORA (n),X (R168) -/
  | oraIndX (n : Byte)
  /-- 15, ORA n,X (R168) -/
  | oraZpX (n : Byte)
  /-- 19, ORA nn,Y (R168) -/
  | oraAbsY (nn : Word)
  /-- 1D, ORA nn,X (R168) -/
  | oraAbsX (nn : Word)
  /-- 41, EOR (n) (R169) -/
  | eorInd (n : Byte)
  /-- 45, EOR n (R169) -/
  | eorZp (n : Byte)
  /-- 49, EOR #n (R169) -/
  | eorImm (n : Byte)
  /-- 4D, EOR nn (R169) -/
  | eorAbs (nn : Word)
  /-- 51, EOR (n),X (R169) -/
  | eorIndX (n : Byte)
  /-- 55, EOR n,X (R169) -/
  | eorZpX (n : Byte)
  /-- 59, EOR nn,Y (R169) -/
  | eorAbsY (nn : Word)
  /-- 5D, EOR nn,X (R169) -/
  | eorAbsX (nn : Word)
  /-- 24, BIT n (R170) -/
  | bitZp (n : Byte)
  /-- 2C, BIT nn (R170) -/
  | bitAbs (nn : Word)
  /-- C1, CMP (n) (R172) -/
  | cmpInd (n : Byte)
  /-- C5, CMP n (R172) -/
  | cmpZp (n : Byte)
  /-- C9, CMP #n (R172) -/
  | cmpImm (n : Byte)
  /-- CD, CMP nn (R172) -/
  | cmpAbs (nn : Word)
  /-- D1, CMP (n),X (R172) -/
  | cmpIndX (n : Byte)
  /-- D5, CMP n,X (R172) -/
  | cmpZpX (n : Byte)
  /-- D9, CMP nn,Y (R172) -/
  | cmpAbsY (nn : Word)
  /-- DD, CMP nn,X (R172) -/
  | cmpAbsX (nn : Word)
  /-- E0, CPX #n (R173) -/
  | cpxImm (n : Byte)
  /-- E4, CPX n (R173) -/
  | cpxZp (n : Byte)
  /-- EC, CPX nn (R173) -/
  | cpxAbs (nn : Word)
  /-- C0, CPY #n (R174) -/
  | cpyImm (n : Byte)
  /-- C4, CPY n (R174) -/
  | cpyZp (n : Byte)
  /-- CC, CPY nn (R174) -/
  | cpyAbs (nn : Word)
  /-- E6, INC n (R175) -/
  | incZp (n : Byte)
  /-- EE, INC nn (R175) -/
  | incAbs (nn : Word)
  /-- F6, INC n,X (R175) -/
  | incZpX (n : Byte)
  /-- FE, INC nn,X (R175) -/
  | incAbsX (nn : Word)
  /-- C6, DEC n (R176) -/
  | decZp (n : Byte)
  /-- CE, DEC nn (R176) -/
  | decAbs (nn : Word)
  /-- D6, DEC n,X (R176) -/
  | decZpX (n : Byte)
  /-- DE, DEC nn,X (R176) -/
  | decAbsX (nn : Word)
  /-- E8, INX (R177) -/
  | inx
  /-- C8, INY (R178) -/
  | iny
  /-- CA, DEX (R179) -/
  | dex
  /-- 88, DEY (R180) -/
  | dey
  /-- 1A, NEG A (R181) -/
  | negA
  /-- 13, LAB A (R182) -/
  | labA
  /-- 06, ASL n (R190) -/
  | aslZp (n : Byte)
  /-- 0A, ASL A (R190) -/
  | aslA
  /-- 0E, ASL nn (R190) -/
  | aslAbs (nn : Word)
  /-- 16, ASL n,X (R190) -/
  | aslZpX (n : Byte)
  /-- 1E, ASL nn,X (R190) -/
  | aslAbsX (nn : Word)
  /-- 46, LSR n (R191) -/
  | lsrZp (n : Byte)
  /-- 4A, LSR A (R191) -/
  | lsrA
  /-- 4E, LSR nn (R191) -/
  | lsrAbs (nn : Word)
  /-- 56, LSR n,X (R191) -/
  | lsrZpX (n : Byte)
  /-- 5E, LSR nn,X (R191) -/
  | lsrAbsX (nn : Word)
  /-- 26, ROL n (R192) -/
  | rolZp (n : Byte)
  /-- 2A, ROL A (R192) -/
  | rolA
  /-- 2E, ROL nn (R192) -/
  | rolAbs (nn : Word)
  /-- 36, ROL n,X (R192) -/
  | rolZpX (n : Byte)
  /-- 3E, ROL nn,X (R192) -/
  | rolAbsX (nn : Word)
  /-- 66, ROR n (R193) -/
  | rorZp (n : Byte)
  /-- 6A, ROR A (R193) -/
  | rorA
  /-- 6E, ROR nn (R193) -/
  | rorAbs (nn : Word)
  /-- 76, ROR n,X (R193) -/
  | rorZpX (n : Byte)
  /-- 7E, ROR nn,X (R193) -/
  | rorAbsX (nn : Word)
  /-- 3A, ASR A (R194) -/
  | asrA
  /-- 02, MPY (R195) -/
  | mpy
  /-- 12, MPA (R196) -/
  | mpa
  /-- 42, RND (R197) -/
  | rnd
  /-- 62, TAW (R198) -/
  | taw
  /-- 72, TWA (R199) -/
  | twa
  /-- 52, CLW (R200) -/
  | clw
  /-- 07, RMB 0,n (R210) -/
  | rmb0 (n : Byte)
  /-- 17, RMB 1,n (R210) -/
  | rmb1 (n : Byte)
  /-- 27, RMB 2,n (R210) -/
  | rmb2 (n : Byte)
  /-- 37, RMB 3,n (R210) -/
  | rmb3 (n : Byte)
  /-- 47, RMB 4,n (R210) -/
  | rmb4 (n : Byte)
  /-- 57, RMB 5,n (R210) -/
  | rmb5 (n : Byte)
  /-- 67, RMB 6,n (R210) -/
  | rmb6 (n : Byte)
  /-- 77, RMB 7,n (R210) -/
  | rmb7 (n : Byte)
  /-- 87, SMB 0,n (R211) -/
  | smb0 (n : Byte)
  /-- 97, SMB 1,n (R211) -/
  | smb1 (n : Byte)
  /-- A7, SMB 2,n (R211) -/
  | smb2 (n : Byte)
  /-- B7, SMB 3,n (R211) -/
  | smb3 (n : Byte)
  /-- C7, SMB 4,n (R211) -/
  | smb4 (n : Byte)
  /-- D7, SMB 5,n (R211) -/
  | smb5 (n : Byte)
  /-- E7, SMB 6,n (R211) -/
  | smb6 (n : Byte)
  /-- F7, SMB 7,n (R211) -/
  | smb7 (n : Byte)
  /-- C2, RBA bm,nn (R212) -/
  | rba (bm : Byte) (nn : Word)
  /-- D2, SBA bm,nn (R213) -/
  | sba (bm : Byte) (nn : Word)
  /-- 0F, BBR 0,n,Dest (R214) -/
  | bbr0 (n : Byte) (r : Byte)
  /-- 1F, BBR 1,n,Dest (R214) -/
  | bbr1 (n : Byte) (r : Byte)
  /-- 2F, BBR 2,n,Dest (R214) -/
  | bbr2 (n : Byte) (r : Byte)
  /-- 3F, BBR 3,n,Dest (R214) -/
  | bbr3 (n : Byte) (r : Byte)
  /-- 4F, BBR 4,n,Dest (R214) -/
  | bbr4 (n : Byte) (r : Byte)
  /-- 5F, BBR 5,n,Dest (R214) -/
  | bbr5 (n : Byte) (r : Byte)
  /-- 6F, BBR 6,n,Dest (R214) -/
  | bbr6 (n : Byte) (r : Byte)
  /-- 7F, BBR 7,n,Dest (R214) -/
  | bbr7 (n : Byte) (r : Byte)
  /-- 8F, BBS 0,n,Dest (R215) -/
  | bbs0 (n : Byte) (r : Byte)
  /-- 9F, BBS 1,n,Dest (R215) -/
  | bbs1 (n : Byte) (r : Byte)
  /-- AF, BBS 2,n,Dest (R215) -/
  | bbs2 (n : Byte) (r : Byte)
  /-- BF, BBS 3,n,Dest (R215) -/
  | bbs3 (n : Byte) (r : Byte)
  /-- CF, BBS 4,n,Dest (R215) -/
  | bbs4 (n : Byte) (r : Byte)
  /-- DF, BBS 5,n,Dest (R215) -/
  | bbs5 (n : Byte) (r : Byte)
  /-- EF, BBS 6,n,Dest (R215) -/
  | bbs6 (n : Byte) (r : Byte)
  /-- FF, BBS 7,n,Dest (R215) -/
  | bbs7 (n : Byte) (r : Byte)
  /-- E2, BAR nn,bm,Dest (R216) -/
  | bar (nn : Word) (bm : Byte) (r : Byte)
  /-- F2, BAS nn,bm,Dest (R217) -/
  | bas (nn : Word) (bm : Byte) (r : Byte)
  /-- 90, BCC Dest (R221) -/
  | bcc (r : Byte)
  /-- B0, BCS Dest (R222) -/
  | bcs (r : Byte)
  /-- F0, BEQ Dest (R223) -/
  | beq (r : Byte)
  /-- 30, BMI Dest (R224) -/
  | bmi (r : Byte)
  /-- D0, BNE Dest (R225) -/
  | bne (r : Byte)
  /-- 10, BPL Dest (R226) -/
  | bpl (r : Byte)
  /-- 50, BVC Dest (R227) -/
  | bvc (r : Byte)
  /-- 70, BVS Dest (R228) -/
  | bvs (r : Byte)
  /-- 80, BRA Dest (R229) -/
  | bra (r : Byte)
  /-- 4C, JMP nn (R230) -/
  | jmpAbs (nn : Word)
  /-- 6C, JMP (nn) (R231) -/
  | jmpInd (nn : Word)
  /-- 7C, JMP (nn,X) (R232) -/
  | jmpIndX (nn : Word)
  /-- 20, JSR nn (R233) -/
  | jsr (nn : Word)
  /-- 0B, JSB 0 (R234) -/
  | jsb0
  /-- 1B, JSB 1 (R234) -/
  | jsb1
  /-- 2B, JSB 2 (R234) -/
  | jsb2
  /-- 3B, JSB 3 (R234) -/
  | jsb3
  /-- 4B, JSB 4 (R234) -/
  | jsb4
  /-- 5B, JSB 5 (R234) -/
  | jsb5
  /-- 6B, JSB 6 (R234) -/
  | jsb6
  /-- 7B, JSB 7 (R234) -/
  | jsb7
  /-- 60, RTS (R235) -/
  | rts
  /-- 40, RTI (R236) -/
  | rti
  /-- 00, BRK (R237) -/
  | brk
  /-- 48, PHA (R251) -/
  | pha
  /-- 08, PHP (R252) -/
  | php
  /-- DA, PHX (R253) -/
  | phx
  /-- 5A, PHY (R254) -/
  | phy
  /-- 23, PHW (R255) -/
  | phw
  /-- CB, PHI (R256) -/
  | phi
  /-- 22, PSH (R258) -/
  | psh
  /-- 68, PLA (R259) -/
  | pla
  /-- 28, PLP (R260) -/
  | plp
  /-- FA, PLX (R261) -/
  | plx
  /-- 7A, PLY (R262) -/
  | ply
  /-- 33, PLW (R263) -/
  | plw
  /-- DB, PLI (R264) -/
  | pli
  /-- 32, PUL (R265) -/
  | pul
  /-- FB, PIA (R266) -/
  | pia
  /-- 8B, NXT (R270) -/
  | nxt
  /-- 9B, LII (R271) -/
  | lii
  /-- EB, LAI (R272) -/
  | lai
  /-- AB, LAN (R273) -/
  | lan
  /-- BB, INI (R274) -/
  | ini
  /-- 0C, JPI (nn) (R275) -/
  | jpi (nn : Word)
  /-- 03, TIP (R276) -/
  | tip
  /-- 18, CLC (R280) -/
  | clc
  /-- D8, CLD (R281) -/
  | cld
  /-- 58, CLI (R282) -/
  | cli
  /-- B8, CLV (R283) -/
  | clv
  /-- 38, SEC (R284) -/
  | sec
  /-- F8, SED (R285) -/
  | sed
  /-- 78, SEI (R286) -/
  | sei
  /-- EA, NOP (R287) -/
  | nop
deriving DecidableEq, Repr

end Sys2Proof
end

