-- ==== Sys2Proof/WellFormed.lean ====
section
/-! DEFINITION. When a sequence of bytes is the encoding of one instruction.  An `Instr` needs no
check of its own: its operands are bytes and 16-bit addresses, and every bit of every operand byte
is used (spec/30_encoding.md R76).  The checks are on raw bytes, written from R71, R76 and R77 and
not from the decoder, so that the decoder can be held against them. -/

namespace Sys2Proof

/-- The 27 op codes marked "Not Used" (R76). -/
def unusedOpcodes : List Byte :=
  [0x04, 0x14, 0x1C, 0x34, 0x3C, 0x43, 0x44, 0x53, 0x54, 0x5C, 0x63, 0x73, 0x82, 0x83,
   0x92, 0x93, 0x9C, 0x9E, 0xA3, 0xB3, 0xC3, 0xD3, 0xDC, 0xE3, 0xF3, 0xF4, 0xFC]

/-- The length in bytes that the op code alone determines, a row of the matrix a line (R70, R71,
R77); 0 where the op code is not used. -/
def opcodeLengths : List Nat :=
  [1, 2, 1, 1, 0, 2, 2, 2, 1, 2, 1, 1, 3, 3, 3, 3,
   2, 2, 1, 1, 0, 2, 2, 2, 1, 3, 1, 1, 0, 3, 3, 3,
   3, 2, 1, 1, 2, 2, 2, 2, 1, 2, 1, 1, 3, 3, 3, 3,
   2, 2, 1, 1, 0, 2, 2, 2, 1, 3, 1, 1, 0, 3, 3, 3,
   1, 2, 1, 0, 0, 2, 2, 2, 1, 2, 1, 1, 3, 3, 3, 3,
   2, 2, 1, 0, 0, 2, 2, 2, 1, 3, 1, 1, 0, 3, 3, 3,
   1, 2, 1, 0, 2, 2, 2, 2, 1, 2, 1, 1, 3, 3, 3, 3,
   2, 2, 1, 0, 2, 2, 2, 2, 1, 3, 1, 1, 3, 3, 3, 3,
   2, 2, 0, 0, 2, 2, 2, 2, 1, 2, 1, 1, 3, 3, 3, 3,
   2, 2, 0, 0, 2, 2, 2, 2, 1, 3, 1, 1, 0, 3, 0, 3,
   2, 2, 2, 0, 2, 2, 2, 2, 1, 2, 1, 1, 3, 3, 3, 3,
   2, 2, 3, 0, 2, 2, 2, 2, 1, 3, 1, 1, 3, 3, 3, 3,
   2, 2, 4, 0, 2, 2, 2, 2, 1, 2, 1, 1, 3, 3, 3, 3,
   2, 2, 4, 0, 2, 2, 2, 2, 1, 3, 1, 1, 0, 3, 3, 3,
   2, 2, 5, 0, 2, 2, 2, 2, 1, 2, 1, 1, 3, 3, 3, 3,
   2, 2, 5, 0, 0, 2, 2, 2, 1, 3, 1, 1, 0, 3, 3, 3]

/-- The length of the instruction that begins with this op code. -/
def opcodeLength (op : Byte) : Nat := (opcodeLengths[op.toNat]?).getD 0

/-- The first byte is a defined op code. -/
def opcodeDefined : List Byte → Bool
  | [] => false
  | op :: _ => decide (op ∉ unusedOpcodes)

/-- There are as many bytes as the op code asks for. -/
def lengthFits : List Byte → Bool
  | [] => false
  | op :: rest => decide (rest.length + 1 = opcodeLength op)

/-- The bytes are the encoding of exactly one instruction. -/
def wellFormed (bs : List Byte) : Bool := opcodeDefined bs && lengthFits bs

end Sys2Proof
end

