-- ==== Sys2Proof/Decode.lean ====
section
/-! DEFINITION. The decoder, total on any bytes, and the encoder (spec/30_encoding.md). -/

namespace Sys2Proof

/-- The operand bytes that follow an op code (R71) and the instruction they make. -/
inductive Shape where
  /-- the op code is not used (R76) -/
  | unused
  /-- one byte: IMP, ACC, JSB -/
  | none (i : Instr)
  /-- two bytes: IMM, ZP, ZPX, ZPY, IND, INDX, REL, BITZP -/
  | byte (f : Byte → Instr)
  /-- three bytes, an address low byte first: ABS, ABSX, ABSY, ABSIND, ABSXIND -/
  | word (f : Word → Instr)
  /-- three bytes, two operands: IMMZP -/
  | bytes (f : Byte → Byte → Instr)
  /-- three bytes, two operands, the second fetched after the data read (R49): BITZPREL -/
  | lateByte (f : Byte → Byte → Instr)
  /-- four bytes, the mask and then the address: BITABS -/
  | byteWord (f : Byte → Word → Instr)
  /-- five bytes, the address, the mask and the offset, the last two fetched after the data read
  (R49): BITABSREL -/
  | wordBytes (f : Word → Byte → Byte → Instr)

/-- One row of the matrix of R74: the sixteen op codes with this high nibble. -/
def opcodeRow : Nat → List Shape
  | 0x0 =>
    [.none .brk, .byte .oraInd, .none .mpy, .none .tip,
     .unused, .byte .oraZp, .byte .aslZp, .byte .rmb0,
     .none .php, .byte .oraImm, .none .aslA, .none .jsb0,
     .word .jpi, .word .oraAbs, .word .aslAbs, .lateByte .bbr0]
  | 0x1 =>
    [.byte .bpl, .byte .oraIndX, .none .mpa, .none .labA,
     .unused, .byte .oraZpX, .byte .aslZpX, .byte .rmb1,
     .none .clc, .word .oraAbsY, .none .negA, .none .jsb1,
     .unused, .word .oraAbsX, .word .aslAbsX, .lateByte .bbr1]
  | 0x2 =>
    [.word .jsr, .byte .andInd, .none .psh, .none .phw,
     .byte .bitZp, .byte .andZp, .byte .rolZp, .byte .rmb2,
     .none .plp, .byte .andImm, .none .rolA, .none .jsb2,
     .word .bitAbs, .word .andAbs, .word .rolAbs, .lateByte .bbr2]
  | 0x3 =>
    [.byte .bmi, .byte .andIndX, .none .pul, .none .plw,
     .unused, .byte .andZpX, .byte .rolZpX, .byte .rmb3,
     .none .sec, .word .andAbsY, .none .asrA, .none .jsb3,
     .unused, .word .andAbsX, .word .rolAbsX, .lateByte .bbr3]
  | 0x4 =>
    [.none .rti, .byte .eorInd, .none .rnd, .unused,
     .unused, .byte .eorZp, .byte .lsrZp, .byte .rmb4,
     .none .pha, .byte .eorImm, .none .lsrA, .none .jsb4,
     .word .jmpAbs, .word .eorAbs, .word .lsrAbs, .lateByte .bbr4]
  | 0x5 =>
    [.byte .bvc, .byte .eorIndX, .none .clw, .unused,
     .unused, .byte .eorZpX, .byte .lsrZpX, .byte .rmb5,
     .none .cli, .word .eorAbsY, .none .phy, .none .jsb5,
     .unused, .word .eorAbsX, .word .lsrAbsX, .lateByte .bbr5]
  | 0x6 =>
    [.none .rts, .byte .adcInd, .none .taw, .unused,
     .byte .addZp, .byte .adcZp, .byte .rorZp, .byte .rmb6,
     .none .pla, .byte .adcImm, .none .rorA, .none .jsb6,
     .word .jmpInd, .word .adcAbs, .word .rorAbs, .lateByte .bbr6]
  | 0x7 =>
    [.byte .bvs, .byte .adcIndX, .none .twa, .unused,
     .byte .addZpX, .byte .adcZpX, .byte .rorZpX, .byte .rmb7,
     .none .sei, .word .adcAbsY, .none .ply, .none .jsb7,
     .word .jmpIndX, .word .adcAbsX, .word .rorAbsX, .lateByte .bbr7]
  | 0x8 =>
    [.byte .bra, .byte .staInd, .unused, .unused,
     .byte .styZp, .byte .staZp, .byte .stxZp, .byte .smb0,
     .none .dey, .byte .addImm, .none .txa, .none .nxt,
     .word .styAbs, .word .staAbs, .word .stxAbs, .lateByte .bbs0]
  | 0x9 =>
    [.byte .bcc, .byte .staIndX, .unused, .unused,
     .byte .styZpX, .byte .staZpX, .byte .stxZpY, .byte .smb1,
     .none .tya, .word .staAbsY, .none .txs, .none .lii,
     .unused, .word .staAbsX, .unused, .lateByte .bbs1]
  | 0xA =>
    [.byte .ldyImm, .byte .ldaInd, .byte .ldxImm, .unused,
     .byte .ldyZp, .byte .ldaZp, .byte .ldxZp, .byte .smb2,
     .none .tay, .byte .ldaImm, .none .tax, .none .lan,
     .word .ldyAbs, .word .ldaAbs, .word .ldxAbs, .lateByte .bbs2]
  | 0xB =>
    [.byte .bcs, .byte .ldaIndX, .bytes .sti, .unused,
     .byte .ldyZpX, .byte .ldaZpX, .byte .ldxZpY, .byte .smb3,
     .none .clv, .word .ldaAbsY, .none .tsx, .none .ini,
     .word .ldyAbsX, .word .ldaAbsX, .word .ldxAbsY, .lateByte .bbs3]
  | 0xC =>
    [.byte .cpyImm, .byte .cmpInd, .byteWord .rba, .unused,
     .byte .cpyZp, .byte .cmpZp, .byte .decZp, .byte .smb4,
     .none .iny, .byte .cmpImm, .none .dex, .none .phi,
     .word .cpyAbs, .word .cmpAbs, .word .decAbs, .lateByte .bbs4]
  | 0xD =>
    [.byte .bne, .byte .cmpIndX, .byteWord .sba, .unused,
     .byte .exc, .byte .cmpZpX, .byte .decZpX, .byte .smb5,
     .none .cld, .word .cmpAbsY, .none .phx, .none .pli,
     .unused, .word .cmpAbsX, .word .decAbsX, .lateByte .bbs5]
  | 0xE =>
    [.byte .cpxImm, .byte .sbcInd, .wordBytes .bar, .unused,
     .byte .cpxZp, .byte .sbcZp, .byte .incZp, .byte .smb6,
     .none .inx, .byte .sbcImm, .none .nop, .none .lai,
     .word .cpxAbs, .word .sbcAbs, .word .incAbs, .lateByte .bbs6]
  | 0xF =>
    [.byte .beq, .byte .sbcIndX, .wordBytes .bas, .unused,
     .unused, .byte .sbcZpX, .byte .incZpX, .byte .smb7,
     .none .sed, .word .sbcAbsY, .none .plx, .none .pia,
     .unused, .word .sbcAbsX, .word .incAbsX, .lateByte .bbs7]
  | _ => []

/-- What the op code alone determines (R70): a cell of the matrix. -/
def shapeOf (op : Byte) : Shape := ((opcodeRow (op.toNat / 16))[op.toNat % 16]?).getD .unused

/-- What the decoder makes of a sequence of bytes. -/
inductive Decoded where
  /-- an instruction, and the bytes after it -/
  | instr (i : Instr) (rest : List Byte)
  /-- the first byte is one of the 27 op codes marked "Not Used" (R76) -/
  | unusedOpcode (op : Byte)
  /-- the bytes end before the instruction does -/
  | truncated
deriving DecidableEq, Repr

/-- The operand bytes taken from a list (R71: `nn = byte3 : byte2`). -/
def decodeOperands (op : Byte) : Shape → List Byte → Decoded
  | .unused, _ => .unusedOpcode op
  | .none i, rest => .instr i rest
  | .byte f, b :: rest => .instr (f b) rest
  | .word f, lo :: hi :: rest => .instr (f (wordOf hi lo)) rest
  | .bytes f, b :: c :: rest => .instr (f b c) rest
  | .lateByte f, b :: c :: rest => .instr (f b c) rest
  | .byteWord f, b :: lo :: hi :: rest => .instr (f b (wordOf hi lo)) rest
  | .wordBytes f, lo :: hi :: b :: c :: rest => .instr (f (wordOf hi lo) b c) rest
  | _, _ => .truncated

/-- The decoder (R70): byte 1 determines the rest. -/
def decode : List Byte → Decoded
  | [] => .truncated
  | op :: rest => decodeOperands op (shapeOf op) rest

/-- The encoder: the bytes of an instruction, op code first (R71, R74). -/
def encode : Instr → List Byte
  | .ldaInd n => [0xA1, n]
  | .ldaZp n => [0xA5, n]
  | .ldaImm n => [0xA9, n]
  | .ldaAbs nn => [0xAD, loByte nn, hiByte nn]
  | .ldaIndX n => [0xB1, n]
  | .ldaZpX n => [0xB5, n]
  | .ldaAbsY nn => [0xB9, loByte nn, hiByte nn]
  | .ldaAbsX nn => [0xBD, loByte nn, hiByte nn]
  | .ldxImm n => [0xA2, n]
  | .ldxZp n => [0xA6, n]
  | .ldxAbs nn => [0xAE, loByte nn, hiByte nn]
  | .ldxZpY n => [0xB6, n]
  | .ldxAbsY nn => [0xBE, loByte nn, hiByte nn]
  | .ldyImm n => [0xA0, n]
  | .ldyZp n => [0xA4, n]
  | .ldyAbs nn => [0xAC, loByte nn, hiByte nn]
  | .ldyZpX n => [0xB4, n]
  | .ldyAbsX nn => [0xBC, loByte nn, hiByte nn]
  | .staInd n => [0x81, n]
  | .staZp n => [0x85, n]
  | .staAbs nn => [0x8D, loByte nn, hiByte nn]
  | .staIndX n => [0x91, n]
  | .staZpX n => [0x95, n]
  | .staAbsY nn => [0x99, loByte nn, hiByte nn]
  | .staAbsX nn => [0x9D, loByte nn, hiByte nn]
  | .stxZp n => [0x86, n]
  | .stxAbs nn => [0x8E, loByte nn, hiByte nn]
  | .stxZpY n => [0x96, n]
  | .styZp n => [0x84, n]
  | .styAbs nn => [0x8C, loByte nn, hiByte nn]
  | .styZpX n => [0x94, n]
  | .sti n1 n2 => [0xB2, n1, n2]
  | .exc n => [0xD4, n]
  | .tax => [0xAA]
  | .tay => [0xA8]
  | .txa => [0x8A]
  | .tya => [0x98]
  | .tsx => [0xBA]
  | .txs => [0x9A]
  | .adcInd n => [0x61, n]
  | .adcZp n => [0x65, n]
  | .adcImm n => [0x69, n]
  | .adcAbs nn => [0x6D, loByte nn, hiByte nn]
  | .adcIndX n => [0x71, n]
  | .adcZpX n => [0x75, n]
  | .adcAbsY nn => [0x79, loByte nn, hiByte nn]
  | .adcAbsX nn => [0x7D, loByte nn, hiByte nn]
  | .addZp n => [0x64, n]
  | .addZpX n => [0x74, n]
  | .addImm n => [0x89, n]
  | .sbcInd n => [0xE1, n]
  | .sbcZp n => [0xE5, n]
  | .sbcImm n => [0xE9, n]
  | .sbcAbs nn => [0xED, loByte nn, hiByte nn]
  | .sbcIndX n => [0xF1, n]
  | .sbcZpX n => [0xF5, n]
  | .sbcAbsY nn => [0xF9, loByte nn, hiByte nn]
  | .sbcAbsX nn => [0xFD, loByte nn, hiByte nn]
  | .andInd n => [0x21, n]
  | .andZp n => [0x25, n]
  | .andImm n => [0x29, n]
  | .andAbs nn => [0x2D, loByte nn, hiByte nn]
  | .andIndX n => [0x31, n]
  | .andZpX n => [0x35, n]
  | .andAbsY nn => [0x39, loByte nn, hiByte nn]
  | .andAbsX nn => [0x3D, loByte nn, hiByte nn]
  | .oraInd n => [0x01, n]
  | .oraZp n => [0x05, n]
  | .oraImm n => [0x09, n]
  | .oraAbs nn => [0x0D, loByte nn, hiByte nn]
  | .oraIndX n => [0x11, n]
  | .oraZpX n => [0x15, n]
  | .oraAbsY nn => [0x19, loByte nn, hiByte nn]
  | .oraAbsX nn => [0x1D, loByte nn, hiByte nn]
  | .eorInd n => [0x41, n]
  | .eorZp n => [0x45, n]
  | .eorImm n => [0x49, n]
  | .eorAbs nn => [0x4D, loByte nn, hiByte nn]
  | .eorIndX n => [0x51, n]
  | .eorZpX n => [0x55, n]
  | .eorAbsY nn => [0x59, loByte nn, hiByte nn]
  | .eorAbsX nn => [0x5D, loByte nn, hiByte nn]
  | .bitZp n => [0x24, n]
  | .bitAbs nn => [0x2C, loByte nn, hiByte nn]
  | .cmpInd n => [0xC1, n]
  | .cmpZp n => [0xC5, n]
  | .cmpImm n => [0xC9, n]
  | .cmpAbs nn => [0xCD, loByte nn, hiByte nn]
  | .cmpIndX n => [0xD1, n]
  | .cmpZpX n => [0xD5, n]
  | .cmpAbsY nn => [0xD9, loByte nn, hiByte nn]
  | .cmpAbsX nn => [0xDD, loByte nn, hiByte nn]
  | .cpxImm n => [0xE0, n]
  | .cpxZp n => [0xE4, n]
  | .cpxAbs nn => [0xEC, loByte nn, hiByte nn]
  | .cpyImm n => [0xC0, n]
  | .cpyZp n => [0xC4, n]
  | .cpyAbs nn => [0xCC, loByte nn, hiByte nn]
  | .incZp n => [0xE6, n]
  | .incAbs nn => [0xEE, loByte nn, hiByte nn]
  | .incZpX n => [0xF6, n]
  | .incAbsX nn => [0xFE, loByte nn, hiByte nn]
  | .decZp n => [0xC6, n]
  | .decAbs nn => [0xCE, loByte nn, hiByte nn]
  | .decZpX n => [0xD6, n]
  | .decAbsX nn => [0xDE, loByte nn, hiByte nn]
  | .inx => [0xE8]
  | .iny => [0xC8]
  | .dex => [0xCA]
  | .dey => [0x88]
  | .negA => [0x1A]
  | .labA => [0x13]
  | .aslZp n => [0x06, n]
  | .aslA => [0x0A]
  | .aslAbs nn => [0x0E, loByte nn, hiByte nn]
  | .aslZpX n => [0x16, n]
  | .aslAbsX nn => [0x1E, loByte nn, hiByte nn]
  | .lsrZp n => [0x46, n]
  | .lsrA => [0x4A]
  | .lsrAbs nn => [0x4E, loByte nn, hiByte nn]
  | .lsrZpX n => [0x56, n]
  | .lsrAbsX nn => [0x5E, loByte nn, hiByte nn]
  | .rolZp n => [0x26, n]
  | .rolA => [0x2A]
  | .rolAbs nn => [0x2E, loByte nn, hiByte nn]
  | .rolZpX n => [0x36, n]
  | .rolAbsX nn => [0x3E, loByte nn, hiByte nn]
  | .rorZp n => [0x66, n]
  | .rorA => [0x6A]
  | .rorAbs nn => [0x6E, loByte nn, hiByte nn]
  | .rorZpX n => [0x76, n]
  | .rorAbsX nn => [0x7E, loByte nn, hiByte nn]
  | .asrA => [0x3A]
  | .mpy => [0x02]
  | .mpa => [0x12]
  | .rnd => [0x42]
  | .taw => [0x62]
  | .twa => [0x72]
  | .clw => [0x52]
  | .rmb0 n => [0x07, n]
  | .rmb1 n => [0x17, n]
  | .rmb2 n => [0x27, n]
  | .rmb3 n => [0x37, n]
  | .rmb4 n => [0x47, n]
  | .rmb5 n => [0x57, n]
  | .rmb6 n => [0x67, n]
  | .rmb7 n => [0x77, n]
  | .smb0 n => [0x87, n]
  | .smb1 n => [0x97, n]
  | .smb2 n => [0xA7, n]
  | .smb3 n => [0xB7, n]
  | .smb4 n => [0xC7, n]
  | .smb5 n => [0xD7, n]
  | .smb6 n => [0xE7, n]
  | .smb7 n => [0xF7, n]
  | .rba bm nn => [0xC2, bm, loByte nn, hiByte nn]
  | .sba bm nn => [0xD2, bm, loByte nn, hiByte nn]
  | .bbr0 n r => [0x0F, n, r]
  | .bbr1 n r => [0x1F, n, r]
  | .bbr2 n r => [0x2F, n, r]
  | .bbr3 n r => [0x3F, n, r]
  | .bbr4 n r => [0x4F, n, r]
  | .bbr5 n r => [0x5F, n, r]
  | .bbr6 n r => [0x6F, n, r]
  | .bbr7 n r => [0x7F, n, r]
  | .bbs0 n r => [0x8F, n, r]
  | .bbs1 n r => [0x9F, n, r]
  | .bbs2 n r => [0xAF, n, r]
  | .bbs3 n r => [0xBF, n, r]
  | .bbs4 n r => [0xCF, n, r]
  | .bbs5 n r => [0xDF, n, r]
  | .bbs6 n r => [0xEF, n, r]
  | .bbs7 n r => [0xFF, n, r]
  | .bar nn bm r => [0xE2, loByte nn, hiByte nn, bm, r]
  | .bas nn bm r => [0xF2, loByte nn, hiByte nn, bm, r]
  | .bcc r => [0x90, r]
  | .bcs r => [0xB0, r]
  | .beq r => [0xF0, r]
  | .bmi r => [0x30, r]
  | .bne r => [0xD0, r]
  | .bpl r => [0x10, r]
  | .bvc r => [0x50, r]
  | .bvs r => [0x70, r]
  | .bra r => [0x80, r]
  | .jmpAbs nn => [0x4C, loByte nn, hiByte nn]
  | .jmpInd nn => [0x6C, loByte nn, hiByte nn]
  | .jmpIndX nn => [0x7C, loByte nn, hiByte nn]
  | .jsr nn => [0x20, loByte nn, hiByte nn]
  | .jsb0 => [0x0B]
  | .jsb1 => [0x1B]
  | .jsb2 => [0x2B]
  | .jsb3 => [0x3B]
  | .jsb4 => [0x4B]
  | .jsb5 => [0x5B]
  | .jsb6 => [0x6B]
  | .jsb7 => [0x7B]
  | .rts => [0x60]
  | .rti => [0x40]
  | .brk => [0x00]
  | .pha => [0x48]
  | .php => [0x08]
  | .phx => [0xDA]
  | .phy => [0x5A]
  | .phw => [0x23]
  | .phi => [0xCB]
  | .psh => [0x22]
  | .pla => [0x68]
  | .plp => [0x28]
  | .plx => [0xFA]
  | .ply => [0x7A]
  | .plw => [0x33]
  | .pli => [0xDB]
  | .pul => [0x32]
  | .pia => [0xFB]
  | .nxt => [0x8B]
  | .lii => [0x9B]
  | .lai => [0xEB]
  | .lan => [0xAB]
  | .ini => [0xBB]
  | .jpi nn => [0x0C, loByte nn, hiByte nn]
  | .tip => [0x03]
  | .clc => [0x18]
  | .cld => [0xD8]
  | .cli => [0x58]
  | .clv => [0xB8]
  | .sec => [0x38]
  | .sed => [0xF8]
  | .sei => [0x78]
  | .nop => [0xEA]

/-- The `k`-th byte of an instruction whose bits are `w`, numbered as the op code table numbers them
(log entry 13). -/
def tableByte (nbits w k : Nat) : Byte := BitVec.ofNat 8 ((w % 2 ^ nbits) >>> (8 * k))

/-- The five bytes, up to the longest instruction, of a table word; the bits above `nbits` are 0. -/
def tableBytes (nbits w : Nat) : List Byte :=
  [tableByte nbits w 0, tableByte nbits w 1, tableByte nbits w 2, tableByte nbits w 3,
   tableByte nbits w 4]

/-- The instruction the decoder reads from a table word. -/
def decodeTableWord (nbits w : Nat) : Option Instr :=
  match decode (tableBytes nbits w) with
  | .instr i _ => some i
  | .unusedOpcode _ => none
  | .truncated => none

end Sys2Proof
end

