-- ==== Sys2Proof/Machine/Fetch.lean ====
section
/-! DEFINITION. Fetching an instruction's bytes through the bus (spec/30_encoding.md R70,
spec/20_memory.md R47), and placing a program's bytes. -/

namespace Sys2Proof.Machine

/-- Read the operand bytes that the op code's shape asks for, from `at_` up, ascending (R47, R70:
each address modulo 65536), and make the instruction.  BBR, BBS, BAR and BAS read their data byte
before they have fetched all their bytes (R49): what is returned for them is the state before the
data read, in which their meaning makes the data read and the late fetches in the order of the bus
tables, and the instruction carries the bytes that those late fetches yield. -/
def State.fetchOperands (s : State) (at_ : Word) : Shape → Option Instr × State
  | .unused => (none, s)
  | .none i => (some i, s)
  | .byte f => (some (f (s.peek at_)), s.touch at_)
  | .word f => (some (f (s.read16 at_).1), (s.read16 at_).2)
  | .bytes f =>
    let b := s.read at_
    let c := b.2.read (at_ + 1)
    (some (f b.1 c.1), c.2)
  | .lateByte f =>
    let n := s.read at_
    let late := (n.2.touch (zext n.1)).touch (zext n.1)
    (some (f n.1 (late.peek (at_ + 1))), n.2)
  | .byteWord f =>
    let b := s.read at_
    let nn := b.2.read16 (at_ + 1)
    (some (f b.1 nn.1), nn.2)
  | .wordBytes f =>
    let nn := s.read16 at_
    let bm := nn.2.touch nn.1
    let r := (bm.touch (at_ + 2)).touch (at_ + 2)
    (some (f nn.1 (bm.peek (at_ + 2)) (r.peek (at_ + 3))), nn.2)

/-- Fetch the instruction at PC: the op code, then its operand bytes; PC itself stays (R23: it holds
the address of the op code until the instruction's rule writes it).  None where the op code is not
used. -/
def State.fetch (s : State) : Option Instr × State :=
  (s.touch s.pc).fetchOperands (s.pc + 1) (shapeOf (s.peek s.pc))

/-- Put a byte at an address from outside the machine, as a loader does: the map says that there is
memory, read/write where it said that there was none. -/
def State.placeByte (s : State) (a : Word) (v : Byte) : State :=
  { s with
    mem := Memory.set s.mem a.toNat v
    params := { s.params with
      memMap :=
        match s.kindAt a with
        | .ram => s.params.memMap
        | .rom => s.params.memMap
        | .io => { base := a.toNat, size := 1, kind := .ram } :: s.params.memMap
        | .unmapped => { base := a.toNat, size := 1, kind := .ram } :: s.params.memMap } }

/-- Put bytes at consecutive addresses. -/
def State.placeBytes : State → Word → List Byte → State
  | s, _, [] => s
  | s, a, v :: vs => State.placeBytes (s.placeByte a v) (a + 1) vs

/-- No request is pending, so that the next step fetches (R304). -/
def State.withoutRequests (s : State) : State :=
  { s with resetPending := false, nmiPending := false,
           irqs := s.irqs.map fun l => { l with pending := false } }

end Sys2Proof.Machine
end

