-- ==== Sys2Proof/Machine/Step.lean ====
section
/-! DEFINITION. One step: at an instruction boundary the start sequence, an interrupt sequence, or
one instruction (spec/60_exceptions.md R304, R309; decision D13). -/

namespace Sys2Proof.Machine

/-- Run what was fetched; an op code that is not used stops the machine (R76, R315; DEDUCED, safe,
log entry 12). -/
def runFetched (s : State) : Option Instr × State → Host.Outcome State Fault Refusal
  | (some i, s') => exec i s'
  | (none, _) => .fault (.unusedOpcode (s.peek s.pc) s.pc)

/-- One step.  Priority at a boundary: reset, NMI, the maskable sources in list order, the next
instruction (R304, R309, D13).  DEDUCED, unsafe (log entry 9). -/
def step (s : State) : Host.Outcome State Fault Refusal :=
  if s.resetPending then .next s.startSequence
  else if s.nmiPending then .next ({ s with nmiPending := false }.interruptSequence nmiVector)
  else
    match s.maskableRequest with
    | some (vector, irqs) => .next ({ s with irqs := irqs }.interruptSequence vector)
    | none => runFetched s s.fetch

/-- `s` with an instruction's bytes stored where `step` fetches next, and nothing pending that would
come before it (log entry 13). -/
def State.withFetchWord (s : State) (nbits w : Nat) : State :=
  s.withoutRequests.placeBytes s.pc (tableBytes nbits w)

end Sys2Proof.Machine
end

