-- ==== Sys2Proof/Safety.lean ====
section
/-! DEFINITION. The terms in which the claims speak: what counts as a safe state, and the tables
of the spec that say what an instruction may touch (spec/10_state.md R10, R29,
spec/70_reset_and_hazards.md R335, R336).  The machine does not use them. -/

namespace Sys2Proof.Machine

/-! ### States -/

/-- The address is one of memory, so that a read of it yields the byte stored there (R42). -/
abbrev State.Stored (s : State) (a : Word) : Prop := s.kindAt a = .ram ∨ s.kindAt a = .rom

/-- No request is taken at this boundary: no reset, no NMI, no maskable source that is pending while
I_flag is 0 (R304). -/
def State.Quiet (s : State) : Prop :=
  s.resetPending = false ∧ s.nmiPending = false ∧
    (s.p.i = true ∨ ∀ l ∈ s.irqs, l.pending = false)

/-- The `n` bytes that memory holds from `a` up. -/
def State.codeBytes (s : State) : Word → Nat → List Byte
  | _, 0 => []
  | a, n + 1 => s.byteAt a :: State.codeBytes s (a + 1) n

/-- The `n` addresses from `a` up are memory. -/
def State.CodeStored (s : State) : Word → Nat → Prop
  | _, 0 => True
  | a, n + 1 => s.Stored a ∧ State.CodeStored s (a + 1) n

/-- The 16-bit value that memory holds at `a`, low byte first (R43). -/
def State.wordAt (s : State) (a : Word) : Word := wordOf (s.byteAt (a + 1)) (s.byteAt a)

/-- Both bytes of a 16-bit value at `a` are memory. -/
abbrev State.WordStored (s : State) (a : Word) : Prop := s.Stored a ∧ s.Stored (a + 1)

/-- From `s` to `t` memory takes exactly these bytes: read/write memory holds each of them, what
is not read/write memory keeps its byte (R42), and so does every other address. -/
def StoresBytes (s t : State) (ws : List (Word × Byte)) : Prop :=
  (∀ w ∈ ws, t.byteAt w.1 = if s.kindAt w.1 = .ram then w.2 else s.byteAt w.1) ∧
    ∀ a, (∀ w ∈ ws, a ≠ w.1) → t.byteAt a = s.byteAt a

/-- The three bytes that an exception pushes with the stack pointer at `sp` (R307). -/
def exceptionFrame (sp : Byte) (ret : Word) (p : Byte) : List (Word × Byte) :=
  [(stackAddr sp, hiByte ret), (stackAddr (sp - 1), loByte ret), (stackAddr (sp - 2), p)]

/-! ### Instruction forms: an op code, the instruction and its operand -/

/-- An instruction that reads an operand. -/
structure ReadForm where
  op : Byte
  instr : Instr
  operand : Operand
deriving DecidableEq, Repr

/-- An instruction that stores to or changes a byte in memory. -/
structure MemForm where
  op : Byte
  instr : Instr
  mode : Mode
deriving DecidableEq, Repr

/-- `i` is an instruction of the op code `op`, and its length in bytes is `len`. -/
def IsEncoded (op : Byte) (i : Instr) (len : Nat) : Prop :=
  (encode i).head? = some op ∧ (encode i).length = len

/-- ADC (R162). -/
def adcForms (n : Byte) (nn : Word) : List ReadForm :=
  [⟨0x61, .adcInd n, .mem (.ind n)⟩, ⟨0x65, .adcZp n, .mem (.zp n)⟩, ⟨0x69, .adcImm n, .imm n⟩,
   ⟨0x6D, .adcAbs nn, .mem (.abs nn)⟩, ⟨0x71, .adcIndX n, .mem (.indX n)⟩,
   ⟨0x75, .adcZpX n, .mem (.zpX n)⟩, ⟨0x79, .adcAbsY nn, .mem (.absY nn)⟩,
   ⟨0x7D, .adcAbsX nn, .mem (.absX nn)⟩]

/-- ADD (R163). -/
def addForms (n : Byte) (_nn : Word) : List ReadForm :=
  [⟨0x64, .addZp n, .mem (.zp n)⟩, ⟨0x74, .addZpX n, .mem (.zpX n)⟩, ⟨0x89, .addImm n, .imm n⟩]

/-- AND (R167). -/
def andForms (n : Byte) (nn : Word) : List ReadForm :=
  [⟨0x21, .andInd n, .mem (.ind n)⟩, ⟨0x25, .andZp n, .mem (.zp n)⟩, ⟨0x29, .andImm n, .imm n⟩,
   ⟨0x2D, .andAbs nn, .mem (.abs nn)⟩, ⟨0x31, .andIndX n, .mem (.indX n)⟩,
   ⟨0x35, .andZpX n, .mem (.zpX n)⟩, ⟨0x39, .andAbsY nn, .mem (.absY nn)⟩,
   ⟨0x3D, .andAbsX nn, .mem (.absX nn)⟩]

/-- BIT (R170). -/
def bitForms (n : Byte) (nn : Word) : List ReadForm :=
  [⟨0x24, .bitZp n, .mem (.zp n)⟩, ⟨0x2C, .bitAbs nn, .mem (.abs nn)⟩]

/-- CMP (R172). -/
def cmpForms (n : Byte) (nn : Word) : List ReadForm :=
  [⟨0xC1, .cmpInd n, .mem (.ind n)⟩, ⟨0xC5, .cmpZp n, .mem (.zp n)⟩, ⟨0xC9, .cmpImm n, .imm n⟩,
   ⟨0xCD, .cmpAbs nn, .mem (.abs nn)⟩, ⟨0xD1, .cmpIndX n, .mem (.indX n)⟩,
   ⟨0xD5, .cmpZpX n, .mem (.zpX n)⟩, ⟨0xD9, .cmpAbsY nn, .mem (.absY nn)⟩,
   ⟨0xDD, .cmpAbsX nn, .mem (.absX nn)⟩]

/-- CPX (R173). -/
def cpxForms (n : Byte) (nn : Word) : List ReadForm :=
  [⟨0xE0, .cpxImm n, .imm n⟩, ⟨0xE4, .cpxZp n, .mem (.zp n)⟩, ⟨0xEC, .cpxAbs nn, .mem (.abs nn)⟩]

/-- CPY (R174). -/
def cpyForms (n : Byte) (nn : Word) : List ReadForm :=
  [⟨0xC0, .cpyImm n, .imm n⟩, ⟨0xC4, .cpyZp n, .mem (.zp n)⟩, ⟨0xCC, .cpyAbs nn, .mem (.abs nn)⟩]

/-- EOR (R169). -/
def eorForms (n : Byte) (nn : Word) : List ReadForm :=
  [⟨0x41, .eorInd n, .mem (.ind n)⟩, ⟨0x45, .eorZp n, .mem (.zp n)⟩, ⟨0x49, .eorImm n, .imm n⟩,
   ⟨0x4D, .eorAbs nn, .mem (.abs nn)⟩, ⟨0x51, .eorIndX n, .mem (.indX n)⟩,
   ⟨0x55, .eorZpX n, .mem (.zpX n)⟩, ⟨0x59, .eorAbsY nn, .mem (.absY nn)⟩,
   ⟨0x5D, .eorAbsX nn, .mem (.absX nn)⟩]

/-- LDA (R130). -/
def ldaForms (n : Byte) (nn : Word) : List ReadForm :=
  [⟨0xA1, .ldaInd n, .mem (.ind n)⟩, ⟨0xA5, .ldaZp n, .mem (.zp n)⟩, ⟨0xA9, .ldaImm n, .imm n⟩,
   ⟨0xAD, .ldaAbs nn, .mem (.abs nn)⟩, ⟨0xB1, .ldaIndX n, .mem (.indX n)⟩,
   ⟨0xB5, .ldaZpX n, .mem (.zpX n)⟩, ⟨0xB9, .ldaAbsY nn, .mem (.absY nn)⟩,
   ⟨0xBD, .ldaAbsX nn, .mem (.absX nn)⟩]

/-- LDX (R131). -/
def ldxForms (n : Byte) (nn : Word) : List ReadForm :=
  [⟨0xA2, .ldxImm n, .imm n⟩, ⟨0xA6, .ldxZp n, .mem (.zp n)⟩, ⟨0xAE, .ldxAbs nn, .mem (.abs nn)⟩,
   ⟨0xB6, .ldxZpY n, .mem (.zpY n)⟩, ⟨0xBE, .ldxAbsY nn, .mem (.absY nn)⟩]

/-- LDY (R132). -/
def ldyForms (n : Byte) (nn : Word) : List ReadForm :=
  [⟨0xA0, .ldyImm n, .imm n⟩, ⟨0xA4, .ldyZp n, .mem (.zp n)⟩, ⟨0xAC, .ldyAbs nn, .mem (.abs nn)⟩,
   ⟨0xB4, .ldyZpX n, .mem (.zpX n)⟩, ⟨0xBC, .ldyAbsX nn, .mem (.absX nn)⟩]

/-- ORA (R168). -/
def oraForms (n : Byte) (nn : Word) : List ReadForm :=
  [⟨0x01, .oraInd n, .mem (.ind n)⟩, ⟨0x05, .oraZp n, .mem (.zp n)⟩, ⟨0x09, .oraImm n, .imm n⟩,
   ⟨0x0D, .oraAbs nn, .mem (.abs nn)⟩, ⟨0x11, .oraIndX n, .mem (.indX n)⟩,
   ⟨0x15, .oraZpX n, .mem (.zpX n)⟩, ⟨0x19, .oraAbsY nn, .mem (.absY nn)⟩,
   ⟨0x1D, .oraAbsX nn, .mem (.absX nn)⟩]

/-- SBC (R166). -/
def sbcForms (n : Byte) (nn : Word) : List ReadForm :=
  [⟨0xE1, .sbcInd n, .mem (.ind n)⟩, ⟨0xE5, .sbcZp n, .mem (.zp n)⟩, ⟨0xE9, .sbcImm n, .imm n⟩,
   ⟨0xED, .sbcAbs nn, .mem (.abs nn)⟩, ⟨0xF1, .sbcIndX n, .mem (.indX n)⟩,
   ⟨0xF5, .sbcZpX n, .mem (.zpX n)⟩, ⟨0xF9, .sbcAbsY nn, .mem (.absY nn)⟩,
   ⟨0xFD, .sbcAbsX nn, .mem (.absX nn)⟩]

/-- STA (R133). -/
def staForms (n : Byte) (nn : Word) : List MemForm :=
  [⟨0x81, .staInd n, .ind n⟩, ⟨0x85, .staZp n, .zp n⟩, ⟨0x8D, .staAbs nn, .abs nn⟩,
   ⟨0x91, .staIndX n, .indX n⟩, ⟨0x95, .staZpX n, .zpX n⟩, ⟨0x99, .staAbsY nn, .absY nn⟩,
   ⟨0x9D, .staAbsX nn, .absX nn⟩]

/-- STX (R134). -/
def stxForms (n : Byte) (nn : Word) : List MemForm :=
  [⟨0x86, .stxZp n, .zp n⟩, ⟨0x8E, .stxAbs nn, .abs nn⟩, ⟨0x96, .stxZpY n, .zpY n⟩]

/-- STY (R135). -/
def styForms (n : Byte) (nn : Word) : List MemForm :=
  [⟨0x84, .styZp n, .zp n⟩, ⟨0x8C, .styAbs nn, .abs nn⟩, ⟨0x94, .styZpX n, .zpX n⟩]

/-- ASL (R190). -/
def aslForms (n : Byte) (nn : Word) : List MemForm :=
  [⟨0x06, .aslZp n, .zp n⟩, ⟨0x0E, .aslAbs nn, .abs nn⟩, ⟨0x16, .aslZpX n, .zpX n⟩,
   ⟨0x1E, .aslAbsX nn, .absX nn⟩]

/-- DEC (R176). -/
def decForms (n : Byte) (nn : Word) : List MemForm :=
  [⟨0xC6, .decZp n, .zp n⟩, ⟨0xCE, .decAbs nn, .abs nn⟩, ⟨0xD6, .decZpX n, .zpX n⟩,
   ⟨0xDE, .decAbsX nn, .absX nn⟩]

/-- INC (R175). -/
def incForms (n : Byte) (nn : Word) : List MemForm :=
  [⟨0xE6, .incZp n, .zp n⟩, ⟨0xEE, .incAbs nn, .abs nn⟩, ⟨0xF6, .incZpX n, .zpX n⟩,
   ⟨0xFE, .incAbsX nn, .absX nn⟩]

/-- LSR (R191). -/
def lsrForms (n : Byte) (nn : Word) : List MemForm :=
  [⟨0x46, .lsrZp n, .zp n⟩, ⟨0x4E, .lsrAbs nn, .abs nn⟩, ⟨0x56, .lsrZpX n, .zpX n⟩,
   ⟨0x5E, .lsrAbsX nn, .absX nn⟩]

/-- ROL (R192). -/
def rolForms (n : Byte) (nn : Word) : List MemForm :=
  [⟨0x26, .rolZp n, .zp n⟩, ⟨0x2E, .rolAbs nn, .abs nn⟩, ⟨0x36, .rolZpX n, .zpX n⟩,
   ⟨0x3E, .rolAbsX nn, .absX nn⟩]

/-- ROR (R193). -/
def rorForms (n : Byte) (nn : Word) : List MemForm :=
  [⟨0x66, .rorZp n, .zp n⟩, ⟨0x6E, .rorAbs nn, .abs nn⟩, ⟨0x76, .rorZpX n, .zpX n⟩,
   ⟨0x7E, .rorAbsX nn, .absX nn⟩]

/-- RMB of bit or vector `b` (R210). -/
def rmbForm (n : Byte) : Fin 8 → Instr
  | 0 => .rmb0 n
  | 1 => .rmb1 n
  | 2 => .rmb2 n
  | 3 => .rmb3 n
  | 4 => .rmb4 n
  | 5 => .rmb5 n
  | 6 => .rmb6 n
  | 7 => .rmb7 n

/-- SMB of bit or vector `b` (R211). -/
def smbForm (n : Byte) : Fin 8 → Instr
  | 0 => .smb0 n
  | 1 => .smb1 n
  | 2 => .smb2 n
  | 3 => .smb3 n
  | 4 => .smb4 n
  | 5 => .smb5 n
  | 6 => .smb6 n
  | 7 => .smb7 n

/-- BBR of bit or vector `b` (R214). -/
def bbrForm (n r : Byte) : Fin 8 → Instr
  | 0 => .bbr0 n r
  | 1 => .bbr1 n r
  | 2 => .bbr2 n r
  | 3 => .bbr3 n r
  | 4 => .bbr4 n r
  | 5 => .bbr5 n r
  | 6 => .bbr6 n r
  | 7 => .bbr7 n r

/-- BBS of bit or vector `b` (R215). -/
def bbsForm (n r : Byte) : Fin 8 → Instr
  | 0 => .bbs0 n r
  | 1 => .bbs1 n r
  | 2 => .bbs2 n r
  | 3 => .bbs3 n r
  | 4 => .bbs4 n r
  | 5 => .bbs5 n r
  | 6 => .bbs6 n r
  | 7 => .bbs7 n r

/-- JSB of bit or vector `b` (R234). -/
def jsbForm : Fin 8 → Instr
  | 0 => .jsb0
  | 1 => .jsb1
  | 2 => .jsb2
  | 3 => .jsb3
  | 4 => .jsb4
  | 5 => .jsb5
  | 6 => .jsb6
  | 7 => .jsb7

/-! ### What an instruction may touch -/

/-- What becomes of one flag (R29). -/
inductive FlagEffect where
  | same
  | changed
  | cleared
  | set
deriving DecidableEq, Repr

/-- The effects on the seven flags, in the order of R29. -/
structure FlagEffects where
  n : FlagEffect
  v : FlagEffect
  b : FlagEffect
  d : FlagEffect
  i : FlagEffect
  z : FlagEffect
  c : FlagEffect
deriving DecidableEq, Repr

/-- A flag before and after agrees with its effect. -/
def FlagEffect.Allows : FlagEffect → Bool → Bool → Prop
  | .same, before, after => after = before
  | .changed, _, _ => True
  | .cleared, _, after => after = false
  | .set, _, after => after = true

/-- Every flag before and after agrees with its effect. -/
def FlagEffects.Allow (e : FlagEffects) (p q : Status) : Prop :=
  e.n.Allows p.n q.n ∧ e.v.Allows p.v q.v ∧ e.b.Allows p.b q.b ∧ e.d.Allows p.d q.d ∧
    e.i.Allows p.i q.i ∧ e.z.Allows p.z q.z ∧ e.c.Allows p.c q.c

/-- The table of R29; the last group is the list of instructions that write no flag. -/
def flagEffects : Instr → FlagEffects
  | .adcInd _ | .adcZp _ | .adcImm _ | .adcAbs _ | .adcIndX _ | .adcZpX _ | .adcAbsY _
  | .adcAbsX _ | .addZp _ | .addZpX _ | .addImm _ | .sbcInd _ | .sbcZp _ | .sbcImm _ | .sbcAbs _
  | .sbcIndX _ | .sbcZpX _ | .sbcAbsY _ | .sbcAbsX _ =>
    ⟨.changed, .changed, .same, .same, .same, .changed, .changed⟩
  | .andInd _ | .andZp _ | .andImm _ | .andAbs _ | .andIndX _ | .andZpX _ | .andAbsY _
  | .andAbsX _ | .oraInd _ | .oraZp _ | .oraImm _ | .oraAbs _ | .oraIndX _ | .oraZpX _
  | .oraAbsY _ | .oraAbsX _ | .eorInd _ | .eorZp _ | .eorImm _ | .eorAbs _ | .eorIndX _
  | .eorZpX _ | .eorAbsY _ | .eorAbsX _ => ⟨.changed, .same, .same, .same, .same, .changed, .same⟩
  | .aslZp _ | .aslA | .aslAbs _ | .aslZpX _ | .aslAbsX _ | .rolZp _ | .rolA | .rolAbs _
  | .rolZpX _ | .rolAbsX _ | .rorZp _ | .rorA | .rorAbs _ | .rorZpX _ | .rorAbsX _ | .asrA =>
    ⟨.changed, .same, .same, .same, .same, .changed, .changed⟩
  | .lsrZp _ | .lsrA | .lsrAbs _ | .lsrZpX _ | .lsrAbsX _ =>
    ⟨.cleared, .same, .same, .same, .same, .changed, .changed⟩
  | .bitZp _ | .bitAbs _ => ⟨.changed, .changed, .same, .same, .same, .changed, .same⟩
  | .brk => ⟨.same, .same, .set, .same, .set, .same, .same⟩
  | .clc => ⟨.same, .same, .same, .same, .same, .same, .cleared⟩
  | .cld => ⟨.same, .same, .same, .cleared, .same, .same, .same⟩
  | .cli => ⟨.same, .same, .same, .same, .cleared, .same, .same⟩
  | .clw | .clv => ⟨.same, .cleared, .same, .same, .same, .same, .same⟩
  | .cmpInd _ | .cmpZp _ | .cmpImm _ | .cmpAbs _ | .cmpIndX _ | .cmpZpX _ | .cmpAbsY _
  | .cmpAbsX _ | .cpxImm _ | .cpxZp _ | .cpxAbs _ | .cpyImm _ | .cpyZp _ | .cpyAbs _ =>
    ⟨.changed, .same, .same, .same, .same, .changed, .changed⟩
  | .ldaInd _ | .ldaZp _ | .ldaImm _ | .ldaAbs _ | .ldaIndX _ | .ldaZpX _ | .ldaAbsY _
  | .ldaAbsX _ | .ldxImm _ | .ldxZp _ | .ldxAbs _ | .ldxZpY _ | .ldxAbsY _ | .ldyImm _ | .ldyZp _
  | .ldyAbs _ | .ldyZpX _ | .ldyAbsX _ | .tax | .tay | .txa | .tya | .tsx | .incZp _ | .incAbs _
  | .incZpX _ | .incAbsX _ | .decZp _ | .decAbs _ | .decZpX _ | .decAbsX _ | .inx | .iny | .dex
  | .dey | .negA | .labA | .taw | .twa | .pla | .plx | .ply | .pia =>
    ⟨.changed, .same, .same, .same, .same, .changed, .same⟩
  | .mpa | .rnd => ⟨.changed, .changed, .same, .same, .same, .same, .same⟩
  | .mpy => ⟨.changed, .cleared, .same, .same, .same, .same, .same⟩
  | .rti | .plp => ⟨.changed, .changed, .same, .changed, .changed, .changed, .changed⟩
  | .sec => ⟨.same, .same, .same, .same, .same, .same, .set⟩
  | .sed => ⟨.same, .same, .same, .set, .same, .same, .same⟩
  | .sei => ⟨.same, .same, .same, .same, .set, .same, .same⟩
  | .staInd _ | .staZp _ | .staAbs _ | .staIndX _ | .staZpX _ | .staAbsY _ | .staAbsX _ | .stxZp _
  | .stxAbs _ | .stxZpY _ | .styZp _ | .styAbs _ | .styZpX _ | .sti _ _ | .exc _ | .txs | .rmb0 _
  | .rmb1 _ | .rmb2 _ | .rmb3 _ | .rmb4 _ | .rmb5 _ | .rmb6 _ | .rmb7 _ | .smb0 _ | .smb1 _
  | .smb2 _ | .smb3 _ | .smb4 _ | .smb5 _ | .smb6 _ | .smb7 _ | .rba _ _ | .sba _ _ | .bbr0 _ _
  | .bbr1 _ _ | .bbr2 _ _ | .bbr3 _ _ | .bbr4 _ _ | .bbr5 _ _ | .bbr6 _ _ | .bbr7 _ _ | .bbs0 _ _
  | .bbs1 _ _ | .bbs2 _ _ | .bbs3 _ _ | .bbs4 _ _ | .bbs5 _ _ | .bbs6 _ _ | .bbs7 _ _ | .bar _ _ _
  | .bas _ _ _ | .bcc _ | .bcs _ | .beq _ | .bmi _ | .bne _ | .bpl _ | .bvc _ | .bvs _ | .bra _
  | .jmpAbs _ | .jmpInd _ | .jmpIndX _ | .jsr _ | .jsb0 | .jsb1 | .jsb2 | .jsb3 | .jsb4 | .jsb5
  | .jsb6 | .jsb7 | .rts | .pha | .php | .phx | .phy | .phw | .phi | .psh | .plw | .pli | .pul
  | .nxt | .lii | .lai | .lan | .ini | .jpi _ | .tip | .nop =>
    ⟨.same, .same, .same, .same, .same, .same, .same⟩

/-- Which of the registers A, X, Y, S, W and I an instruction writes. -/
structure RegisterSet where
  a : Bool
  x : Bool
  y : Bool
  s : Bool
  w : Bool
  i : Bool
deriving DecidableEq, Repr

/-- The column "written by" of the table of R10. -/
def registersWritten : Instr → RegisterSet
  | .ldaInd _ | .ldaZp _ | .ldaImm _ | .ldaAbs _ | .ldaIndX _ | .ldaZpX _ | .ldaAbsY _
  | .ldaAbsX _ | .exc _ | .txa | .tya | .adcInd _ | .adcZp _ | .adcImm _ | .adcAbs _ | .adcIndX _
  | .adcZpX _ | .adcAbsY _ | .adcAbsX _ | .addZp _ | .addZpX _ | .addImm _ | .sbcInd _ | .sbcZp _
  | .sbcImm _ | .sbcAbs _ | .sbcIndX _ | .sbcZpX _ | .sbcAbsY _ | .sbcAbsX _ | .andInd _
  | .andZp _ | .andImm _ | .andAbs _ | .andIndX _ | .andZpX _ | .andAbsY _ | .andAbsX _
  | .oraInd _ | .oraZp _ | .oraImm _ | .oraAbs _ | .oraIndX _ | .oraZpX _ | .oraAbsY _
  | .oraAbsX _ | .eorInd _ | .eorZp _ | .eorImm _ | .eorAbs _ | .eorIndX _ | .eorZpX _
  | .eorAbsY _ | .eorAbsX _ | .negA | .labA | .aslA | .lsrA | .rolA | .rorA | .asrA | .twa
  | .rba _ _ | .sba _ _ | .lai => ⟨true, false, false, false, false, false⟩
  | .ldxImm _ | .ldxZp _ | .ldxAbs _ | .ldxZpY _ | .ldxAbsY _ | .tax | .tsx | .inx | .dex =>
    ⟨false, true, false, false, false, false⟩
  | .ldyImm _ | .ldyZp _ | .ldyAbs _ | .ldyZpX _ | .ldyAbsX _ | .tay | .iny | .dey =>
    ⟨false, false, true, false, false, false⟩
  | .staInd _ | .staZp _ | .staAbs _ | .staIndX _ | .staZpX _ | .staAbsY _ | .staAbsX _ | .stxZp _
  | .stxAbs _ | .stxZpY _ | .styZp _ | .styAbs _ | .styZpX _ | .sti _ _ | .bitZp _ | .bitAbs _
  | .cmpInd _ | .cmpZp _ | .cmpImm _ | .cmpAbs _ | .cmpIndX _ | .cmpZpX _ | .cmpAbsY _
  | .cmpAbsX _ | .cpxImm _ | .cpxZp _ | .cpxAbs _ | .cpyImm _ | .cpyZp _ | .cpyAbs _ | .incZp _
  | .incAbs _ | .incZpX _ | .incAbsX _ | .decZp _ | .decAbs _ | .decZpX _ | .decAbsX _ | .aslZp _
  | .aslAbs _ | .aslZpX _ | .aslAbsX _ | .lsrZp _ | .lsrAbs _ | .lsrZpX _ | .lsrAbsX _ | .rolZp _
  | .rolAbs _ | .rolZpX _ | .rolAbsX _ | .rorZp _ | .rorAbs _ | .rorZpX _ | .rorAbsX _ | .rmb0 _
  | .rmb1 _ | .rmb2 _ | .rmb3 _ | .rmb4 _ | .rmb5 _ | .rmb6 _ | .rmb7 _ | .smb0 _ | .smb1 _
  | .smb2 _ | .smb3 _ | .smb4 _ | .smb5 _ | .smb6 _ | .smb7 _ | .bbr0 _ _ | .bbr1 _ _ | .bbr2 _ _
  | .bbr3 _ _ | .bbr4 _ _ | .bbr5 _ _ | .bbr6 _ _ | .bbr7 _ _ | .bbs0 _ _ | .bbs1 _ _ | .bbs2 _ _
  | .bbs3 _ _ | .bbs4 _ _ | .bbs5 _ _ | .bbs6 _ _ | .bbs7 _ _ | .bar _ _ _ | .bas _ _ _ | .bcc _
  | .bcs _ | .beq _ | .bmi _ | .bne _ | .bpl _ | .bvc _ | .bvs _ | .bra _ | .jmpAbs _ | .jmpInd _
  | .jmpIndX _ | .tip | .clc | .cld | .cli | .clv | .sec | .sed | .sei | .nop =>
    ⟨false, false, false, false, false, false⟩
  | .txs | .jsr _ | .jsb0 | .jsb1 | .jsb2 | .jsb3 | .jsb4 | .jsb5 | .jsb6 | .jsb7 | .rts | .rti
  | .brk | .pha | .php | .phx | .phy | .phw | .phi | .psh | .plp =>
    ⟨false, false, false, true, false, false⟩
  | .mpy | .rnd => ⟨true, false, true, false, false, false⟩
  | .mpa => ⟨false, false, true, false, true, false⟩
  | .taw | .clw => ⟨false, false, false, false, true, false⟩
  | .pla => ⟨true, false, false, true, false, false⟩
  | .plx => ⟨false, true, false, true, false, false⟩
  | .ply => ⟨false, false, true, true, false, false⟩
  | .plw => ⟨false, false, false, true, true, false⟩
  | .pli => ⟨false, false, false, true, false, true⟩
  | .pul => ⟨true, true, true, true, false, false⟩
  | .pia => ⟨true, true, false, true, false, true⟩
  | .nxt | .lii | .ini | .jpi _ => ⟨false, false, false, false, false, true⟩
  | .lan => ⟨true, false, false, false, false, true⟩

/-- The addresses that an instruction stores to, as its meaning computes them (R119, R250). -/
def storesTo (s : State) : Instr → List Word
  | .ldaInd _ | .ldaZp _ | .ldaImm _ | .ldaAbs _ | .ldaIndX _ | .ldaZpX _ | .ldaAbsY _
  | .ldaAbsX _ | .ldxImm _ | .ldxZp _ | .ldxAbs _ | .ldxZpY _ | .ldxAbsY _ | .ldyImm _ | .ldyZp _
  | .ldyAbs _ | .ldyZpX _ | .ldyAbsX _ | .tax | .tay | .txa | .tya | .tsx | .txs | .adcInd _
  | .adcZp _ | .adcImm _ | .adcAbs _ | .adcIndX _ | .adcZpX _ | .adcAbsY _ | .adcAbsX _ | .addZp _
  | .addZpX _ | .addImm _ | .sbcInd _ | .sbcZp _ | .sbcImm _ | .sbcAbs _ | .sbcIndX _ | .sbcZpX _
  | .sbcAbsY _ | .sbcAbsX _ | .andInd _ | .andZp _ | .andImm _ | .andAbs _ | .andIndX _
  | .andZpX _ | .andAbsY _ | .andAbsX _ | .oraInd _ | .oraZp _ | .oraImm _ | .oraAbs _
  | .oraIndX _ | .oraZpX _ | .oraAbsY _ | .oraAbsX _ | .eorInd _ | .eorZp _ | .eorImm _
  | .eorAbs _ | .eorIndX _ | .eorZpX _ | .eorAbsY _ | .eorAbsX _ | .bitZp _ | .bitAbs _
  | .cmpInd _ | .cmpZp _ | .cmpImm _ | .cmpAbs _ | .cmpIndX _ | .cmpZpX _ | .cmpAbsY _
  | .cmpAbsX _ | .cpxImm _ | .cpxZp _ | .cpxAbs _ | .cpyImm _ | .cpyZp _ | .cpyAbs _ | .inx | .iny
  | .dex | .dey | .negA | .labA | .aslA | .lsrA | .rolA | .rorA | .asrA | .mpy | .mpa | .rnd
  | .taw | .twa | .clw | .bbr0 _ _ | .bbr1 _ _ | .bbr2 _ _ | .bbr3 _ _ | .bbr4 _ _ | .bbr5 _ _
  | .bbr6 _ _ | .bbr7 _ _ | .bbs0 _ _ | .bbs1 _ _ | .bbs2 _ _ | .bbs3 _ _ | .bbs4 _ _ | .bbs5 _ _
  | .bbs6 _ _ | .bbs7 _ _ | .bar _ _ _ | .bas _ _ _ | .bcc _ | .bcs _ | .beq _ | .bmi _ | .bne _
  | .bpl _ | .bvc _ | .bvs _ | .bra _ | .jmpAbs _ | .jmpInd _ | .jmpIndX _ | .rts | .rti | .pla
  | .plp | .plx | .ply | .plw | .pli | .pul | .pia | .nxt | .lii | .lai | .lan | .ini | .jpi _
  | .tip | .clc | .cld | .cli | .clv | .sec | .sed | .sei | .nop => []
  | .staInd n => [(s.resolve .write (.ind n)).1]
  | .staZp n | .stxZp n | .styZp n | .incZp n | .decZp n | .aslZp n | .lsrZp n | .rolZp n
  | .rorZp n => [(s.resolve .write (.zp n)).1]
  | .staAbs nn | .stxAbs nn | .styAbs nn | .incAbs nn | .decAbs nn | .aslAbs nn | .lsrAbs nn
  | .rolAbs nn | .rorAbs nn => [(s.resolve .write (.abs nn)).1]
  | .staIndX n => [(s.resolve .write (.indX n)).1]
  | .staZpX n | .styZpX n | .exc n | .incZpX n | .decZpX n | .aslZpX n | .lsrZpX n | .rolZpX n
  | .rorZpX n => [(s.resolve .write (.zpX n)).1]
  | .staAbsY nn => [(s.resolve .write (.absY nn)).1]
  | .staAbsX nn | .incAbsX nn | .decAbsX nn | .aslAbsX nn | .lsrAbsX nn | .rolAbsX nn
  | .rorAbsX nn => [(s.resolve .write (.absX nn)).1]
  | .stxZpY n => [(s.resolve .write (.zpY n)).1]
  | .sti _ n2 => [zext n2]
  | .rmb0 n | .rmb1 n | .rmb2 n | .rmb3 n | .rmb4 n | .rmb5 n | .rmb6 n | .rmb7 n | .smb0 n
  | .smb1 n | .smb2 n | .smb3 n | .smb4 n | .smb5 n | .smb6 n | .smb7 n => [zext n]
  | .rba _ nn | .sba _ nn => [nn]
  | .jsr _ | .jsb0 | .jsb1 | .jsb2 | .jsb3 | .jsb4 | .jsb5 | .jsb6 | .jsb7 | .phw | .phi =>
    [stackAddr s.sp, stackAddr (s.sp - 1)]
  | .brk | .psh => [stackAddr s.sp, stackAddr (s.sp - 1), stackAddr (s.sp - 2)]
  | .pha | .php | .phx | .phy => [stackAddr s.sp]

/-! ### Cycles -/

/-- The table of R335: the machine cycles of an instruction, its branch not taken, no page
crossed, binary mode; BRA in its own page.  TYA is spec/41_load_store_transfer.md section 3 (log
entry 19). -/
def baseCycles : Instr → Nat
  | .ldaImm _ | .ldxImm _ | .ldyImm _ | .tax | .tay | .txa | .tya | .tsx | .txs | .adcImm _
  | .addImm _ | .sbcImm _ | .andImm _ | .oraImm _ | .eorImm _ | .cmpImm _ | .cpxImm _ | .cpyImm _
  | .inx | .iny | .dex | .dey | .negA | .aslA | .lsrA | .rolA | .rorA | .asrA | .rnd | .taw | .twa
  | .clw | .bcc _ | .bcs _ | .beq _ | .bmi _ | .bne _ | .bpl _ | .bvc _ | .bvs _ | .tip | .clc
  | .cld | .cli | .clv | .sec | .sed | .sei | .nop => 2
  | .ldaZp _ | .ldxZp _ | .ldyZp _ | .staZp _ | .stxZp _ | .styZp _ | .adcZp _ | .addZp _
  | .sbcZp _ | .andZp _ | .oraZp _ | .eorZp _ | .bitZp _ | .cmpZp _ | .cpxZp _ | .cpyZp _ | .labA
  | .bra _ | .jmpAbs _ | .pha | .php | .phx | .phy | .lai | .lan | .ini => 3
  | .ldaAbs _ | .ldaZpX _ | .ldaAbsY _ | .ldaAbsX _ | .ldxAbs _ | .ldxZpY _ | .ldxAbsY _
  | .ldyAbs _ | .ldyZpX _ | .ldyAbsX _ | .staAbs _ | .staZpX _ | .stxAbs _ | .stxZpY _ | .styAbs _
  | .styZpX _ | .sti _ _ | .adcAbs _ | .adcZpX _ | .adcAbsY _ | .adcAbsX _ | .addZpX _ | .sbcAbs _
  | .sbcZpX _ | .sbcAbsY _ | .sbcAbsX _ | .andAbs _ | .andZpX _ | .andAbsY _ | .andAbsX _
  | .oraAbs _ | .oraZpX _ | .oraAbsY _ | .oraAbsX _ | .eorAbs _ | .eorZpX _ | .eorAbsY _
  | .eorAbsX _ | .bitAbs _ | .cmpAbs _ | .cmpZpX _ | .cmpAbsY _ | .cmpAbsX _ | .cpxAbs _
  | .cpyAbs _ | .phw | .phi | .pla | .plp | .plx | .ply | .nxt => 4
  | .ldaInd _ | .ldaIndX _ | .staInd _ | .staAbsY _ | .staAbsX _ | .exc _ | .adcInd _ | .adcIndX _
  | .sbcInd _ | .sbcIndX _ | .andInd _ | .andIndX _ | .oraInd _ | .oraIndX _ | .eorInd _
  | .eorIndX _ | .cmpInd _ | .cmpIndX _ | .incZp _ | .decZp _ | .aslZp _ | .lsrZp _ | .rolZp _
  | .rorZp _ | .rmb0 _ | .rmb1 _ | .rmb2 _ | .rmb3 _ | .rmb4 _ | .rmb5 _ | .rmb6 _ | .rmb7 _
  | .smb0 _ | .smb1 _ | .smb2 _ | .smb3 _ | .smb4 _ | .smb5 _ | .smb6 _ | .smb7 _ | .bbr0 _ _
  | .bbr1 _ _ | .bbr2 _ _ | .bbr3 _ _ | .bbr4 _ _ | .bbr5 _ _ | .bbr6 _ _ | .bbr7 _ _ | .bbs0 _ _
  | .bbs1 _ _ | .bbs2 _ _ | .bbs3 _ _ | .bbs4 _ _ | .bbs5 _ _ | .bbs6 _ _ | .bbs7 _ _ | .jmpInd _
  | .jsr _ | .rts | .psh | .plw | .lii | .jpi _ => 5
  | .staIndX _ | .incAbs _ | .incZpX _ | .decAbs _ | .decZpX _ | .aslAbs _ | .aslZpX _ | .lsrAbs _
  | .lsrZpX _ | .rolAbs _ | .rolZpX _ | .rorAbs _ | .rorZpX _ | .mpy | .mpa | .jmpIndX _ | .jsb0
  | .jsb1 | .jsb2 | .jsb3 | .jsb4 | .jsb5 | .jsb6 | .jsb7 | .rti | .pli | .pul | .pia => 6
  | .incAbsX _ | .decAbsX _ | .aslAbsX _ | .lsrAbsX _ | .rolAbsX _ | .rorAbsX _ | .rba _ _
  | .sba _ _ | .bar _ _ _ | .bas _ _ _ | .brk => 7

/-- A boolean as a number of cycles. -/
def oneIf (b : Bool) : Nat := if b then 1 else 0

/-- Note b of R336: one more cycle for a branch taken in the page of `npc`, two for another page. -/
def takenCycles (cond : Bool) (npc : Word) (r : Byte) : Nat :=
  if cond then if hiByte (branchTarget npc r) = hiByte npc then 1 else 2 else 0

/-- The adjustments of R336.  Notes a and c are of the forms that read an operand. -/
def extraCycles (s : State) : Instr → Nat
  | .ldaInd _ | .ldaZp _ | .ldaImm _ | .ldaAbs _ | .ldaZpX _ | .ldxImm _ | .ldxZp _ | .ldxAbs _
  | .ldxZpY _ | .ldyImm _ | .ldyZp _ | .ldyAbs _ | .ldyZpX _ | .staInd _ | .staZp _ | .staAbs _
  | .staIndX _ | .staZpX _ | .staAbsY _ | .staAbsX _ | .stxZp _ | .stxAbs _ | .stxZpY _ | .styZp _
  | .styAbs _ | .styZpX _ | .sti _ _ | .exc _ | .tax | .tay | .txa | .tya | .tsx | .txs
  | .andInd _ | .andZp _ | .andImm _ | .andAbs _ | .andZpX _ | .oraInd _ | .oraZp _ | .oraImm _
  | .oraAbs _ | .oraZpX _ | .eorInd _ | .eorZp _ | .eorImm _ | .eorAbs _ | .eorZpX _ | .bitZp _
  | .bitAbs _ | .cmpInd _ | .cmpZp _ | .cmpImm _ | .cmpAbs _ | .cmpZpX _ | .cpxImm _ | .cpxZp _
  | .cpxAbs _ | .cpyImm _ | .cpyZp _ | .cpyAbs _ | .incZp _ | .incAbs _ | .incZpX _ | .incAbsX _
  | .decZp _ | .decAbs _ | .decZpX _ | .decAbsX _ | .inx | .iny | .dex | .dey | .negA | .labA
  | .aslZp _ | .aslA | .aslAbs _ | .aslZpX _ | .aslAbsX _ | .lsrZp _ | .lsrA | .lsrAbs _
  | .lsrZpX _ | .lsrAbsX _ | .rolZp _ | .rolA | .rolAbs _ | .rolZpX _ | .rolAbsX _ | .rorZp _
  | .rorA | .rorAbs _ | .rorZpX _ | .rorAbsX _ | .asrA | .mpy | .mpa | .rnd | .taw | .twa | .clw
  | .rmb0 _ | .rmb1 _ | .rmb2 _ | .rmb3 _ | .rmb4 _ | .rmb5 _ | .rmb6 _ | .rmb7 _ | .smb0 _
  | .smb1 _ | .smb2 _ | .smb3 _ | .smb4 _ | .smb5 _ | .smb6 _ | .smb7 _ | .rba _ _ | .sba _ _
  | .jmpAbs _ | .jmpInd _ | .jmpIndX _ | .jsr _ | .jsb0 | .jsb1 | .jsb2 | .jsb3 | .jsb4 | .jsb5
  | .jsb6 | .jsb7 | .rts | .rti | .brk | .pha | .php | .phx | .phy | .phw | .phi | .psh | .pla
  | .plp | .plx | .ply | .plw | .pli | .pul | .pia | .nxt | .lii | .lai | .lan | .ini | .jpi _
  | .tip | .clc | .cld | .cli | .clv | .sec | .sed | .sei | .nop => 0
  | .ldaIndX n | .andIndX n | .oraIndX n | .eorIndX n | .cmpIndX n =>
    oneIf (crossesPage (s.read16zp n).1 s.x)
  | .ldaAbsY nn | .ldxAbsY nn | .andAbsY nn | .oraAbsY nn | .eorAbsY nn | .cmpAbsY nn =>
    oneIf (crossesPage nn s.y)
  | .ldaAbsX nn | .ldyAbsX nn | .andAbsX nn | .oraAbsX nn | .eorAbsX nn | .cmpAbsX nn =>
    oneIf (crossesPage nn s.x)
  | .adcInd _ | .adcZp _ | .adcImm _ | .adcAbs _ | .adcZpX _ | .addZp _ | .addZpX _ | .addImm _
  | .sbcInd _ | .sbcZp _ | .sbcImm _ | .sbcAbs _ | .sbcZpX _ => oneIf s.p.d
  | .adcIndX n | .sbcIndX n => oneIf (crossesPage (s.read16zp n).1 s.x) + oneIf s.p.d
  | .adcAbsY nn | .sbcAbsY nn => oneIf (crossesPage nn s.y) + oneIf s.p.d
  | .adcAbsX nn | .sbcAbsX nn => oneIf (crossesPage nn s.x) + oneIf s.p.d
  | .bbr0 n r => takenCycles (!bitOf (s.peek (zext n)) 0) (s.pc + 3) r
  | .bbr1 n r => takenCycles (!bitOf (s.peek (zext n)) 1) (s.pc + 3) r
  | .bbr2 n r => takenCycles (!bitOf (s.peek (zext n)) 2) (s.pc + 3) r
  | .bbr3 n r => takenCycles (!bitOf (s.peek (zext n)) 3) (s.pc + 3) r
  | .bbr4 n r => takenCycles (!bitOf (s.peek (zext n)) 4) (s.pc + 3) r
  | .bbr5 n r => takenCycles (!bitOf (s.peek (zext n)) 5) (s.pc + 3) r
  | .bbr6 n r => takenCycles (!bitOf (s.peek (zext n)) 6) (s.pc + 3) r
  | .bbr7 n r => takenCycles (!bitOf (s.peek (zext n)) 7) (s.pc + 3) r
  | .bbs0 n r => takenCycles (bitOf (s.peek (zext n)) 0) (s.pc + 3) r
  | .bbs1 n r => takenCycles (bitOf (s.peek (zext n)) 1) (s.pc + 3) r
  | .bbs2 n r => takenCycles (bitOf (s.peek (zext n)) 2) (s.pc + 3) r
  | .bbs3 n r => takenCycles (bitOf (s.peek (zext n)) 3) (s.pc + 3) r
  | .bbs4 n r => takenCycles (bitOf (s.peek (zext n)) 4) (s.pc + 3) r
  | .bbs5 n r => takenCycles (bitOf (s.peek (zext n)) 5) (s.pc + 3) r
  | .bbs6 n r => takenCycles (bitOf (s.peek (zext n)) 6) (s.pc + 3) r
  | .bbs7 n r => takenCycles (bitOf (s.peek (zext n)) 7) (s.pc + 3) r
  | .bar nn bm r => takenCycles (decide (~~~s.peek nn &&& bm ≠ 0)) (s.pc + 5) r
  | .bas nn bm r => takenCycles (decide (s.peek nn &&& bm ≠ 0)) (s.pc + 5) r
  | .bcc r => takenCycles (!s.p.c) (s.pc + 2) r
  | .bcs r => takenCycles s.p.c (s.pc + 2) r
  | .beq r => takenCycles s.p.z (s.pc + 2) r
  | .bmi r => takenCycles s.p.n (s.pc + 2) r
  | .bne r => takenCycles (!s.p.z) (s.pc + 2) r
  | .bpl r => takenCycles (!s.p.n) (s.pc + 2) r
  | .bvc r => takenCycles (!s.p.v) (s.pc + 2) r
  | .bvs r => takenCycles s.p.v (s.pc + 2) r
  | .bra r => takenCycles true (s.pc + 2) r - 1

/-- How many of its bytes an instruction has had fetched before its own accesses begin (R47); BBR,
BBS, BAR and BAS fetch the others after their data read (R49). -/
def earlyBytes : Instr → Nat
  | .tax | .tay | .txa | .tya | .tsx | .txs | .inx | .iny | .dex | .dey | .negA | .labA | .aslA
  | .lsrA | .rolA | .rorA | .asrA | .mpy | .mpa | .rnd | .taw | .twa | .clw | .jsb0 | .jsb1
  | .jsb2 | .jsb3 | .jsb4 | .jsb5 | .jsb6 | .jsb7 | .rts | .rti | .brk | .pha | .php | .phx | .phy
  | .phw | .phi | .psh | .pla | .plp | .plx | .ply | .plw | .pli | .pul | .pia | .nxt | .lii
  | .lai | .lan | .ini | .tip | .clc | .cld | .cli | .clv | .sec | .sed | .sei | .nop => 1
  | .ldaInd _ | .ldaZp _ | .ldaImm _ | .ldaIndX _ | .ldaZpX _ | .ldxImm _ | .ldxZp _ | .ldxZpY _
  | .ldyImm _ | .ldyZp _ | .ldyZpX _ | .staInd _ | .staZp _ | .staIndX _ | .staZpX _ | .stxZp _
  | .stxZpY _ | .styZp _ | .styZpX _ | .exc _ | .adcInd _ | .adcZp _ | .adcImm _ | .adcIndX _
  | .adcZpX _ | .addZp _ | .addZpX _ | .addImm _ | .sbcInd _ | .sbcZp _ | .sbcImm _ | .sbcIndX _
  | .sbcZpX _ | .andInd _ | .andZp _ | .andImm _ | .andIndX _ | .andZpX _ | .oraInd _ | .oraZp _
  | .oraImm _ | .oraIndX _ | .oraZpX _ | .eorInd _ | .eorZp _ | .eorImm _ | .eorIndX _ | .eorZpX _
  | .bitZp _ | .cmpInd _ | .cmpZp _ | .cmpImm _ | .cmpIndX _ | .cmpZpX _ | .cpxImm _ | .cpxZp _
  | .cpyImm _ | .cpyZp _ | .incZp _ | .incZpX _ | .decZp _ | .decZpX _ | .aslZp _ | .aslZpX _
  | .lsrZp _ | .lsrZpX _ | .rolZp _ | .rolZpX _ | .rorZp _ | .rorZpX _ | .rmb0 _ | .rmb1 _
  | .rmb2 _ | .rmb3 _ | .rmb4 _ | .rmb5 _ | .rmb6 _ | .rmb7 _ | .smb0 _ | .smb1 _ | .smb2 _
  | .smb3 _ | .smb4 _ | .smb5 _ | .smb6 _ | .smb7 _ | .bbr0 _ _ | .bbr1 _ _ | .bbr2 _ _
  | .bbr3 _ _ | .bbr4 _ _ | .bbr5 _ _ | .bbr6 _ _ | .bbr7 _ _ | .bbs0 _ _ | .bbs1 _ _ | .bbs2 _ _
  | .bbs3 _ _ | .bbs4 _ _ | .bbs5 _ _ | .bbs6 _ _ | .bbs7 _ _ | .bcc _ | .bcs _ | .beq _ | .bmi _
  | .bne _ | .bpl _ | .bvc _ | .bvs _ | .bra _ => 2
  | .ldaAbs _ | .ldaAbsY _ | .ldaAbsX _ | .ldxAbs _ | .ldxAbsY _ | .ldyAbs _ | .ldyAbsX _
  | .staAbs _ | .staAbsY _ | .staAbsX _ | .stxAbs _ | .styAbs _ | .sti _ _ | .adcAbs _
  | .adcAbsY _ | .adcAbsX _ | .sbcAbs _ | .sbcAbsY _ | .sbcAbsX _ | .andAbs _ | .andAbsY _
  | .andAbsX _ | .oraAbs _ | .oraAbsY _ | .oraAbsX _ | .eorAbs _ | .eorAbsY _ | .eorAbsX _
  | .bitAbs _ | .cmpAbs _ | .cmpAbsY _ | .cmpAbsX _ | .cpxAbs _ | .cpyAbs _ | .incAbs _
  | .incAbsX _ | .decAbs _ | .decAbsX _ | .aslAbs _ | .aslAbsX _ | .lsrAbs _ | .lsrAbsX _
  | .rolAbs _ | .rolAbsX _ | .rorAbs _ | .rorAbsX _ | .bar _ _ _ | .bas _ _ _ | .jmpAbs _
  | .jmpInd _ | .jmpIndX _ | .jsr _ | .jpi _ => 3
  | .rba _ _ | .sba _ _ => 4

/-- From before the execution of `i` to after it, with the fetch that came first, `i` takes `n`
machine cycles (R335). -/
def TakesCycles (s t : State) (i : Instr) (n : Nat) : Prop :=
  t.bus.cycles + earlyBytes i = s.bus.cycles + n

end Sys2Proof.Machine
end

