-- ==== Sys2Proof/Certificates/Slice0/Obligations.lean ====
section
/-! DEFINITION. The statements for the provers.  Two conventions hold throughout.

A conclusion `t = { s with a := …, bus := t.bus }` is a frame: every field that is not named is
the one of `s`: the other registers, the flags, all of memory (so reading any byte gives what it
gave before), the pending requests and the parameters.  `bus` is the model's own record of the bus
(log entry 4).

A byte read is stated as the byte stored there where the address is memory (`State.Stored`); from
a device window, or where nothing is, the spec leaves the byte open (R42), and the statement then
says what follows from whatever byte came. -/

open Sys2Proof Sys2Proof.Machine

/-! ### Encoding -/

/-- R70 to R74: decoding the bytes of any instruction, whatever follows them, gives the instruction
back and leaves what follows. -/
def Obligations.DecodeOfEncode : Prop :=
  ∀ (i : Instr) (rest : List Byte), decode (encode i ++ rest) = .instr i rest

/-- R70 to R74: what decodes to an instruction is the bytes of that instruction and the rest, so a
sequence of bytes has one reading and no bit of it is dropped. -/
def Obligations.EncodeOfDecode : Prop :=
  ∀ (bytes : List Byte) (i : Instr) (rest : List Byte),
    decode bytes = .instr i rest → bytes = encode i ++ rest

/-- R71, R76, R77: the decoder reads bytes as one instruction exactly when the op code is defined
and they are as many as the table of lengths, written apart from the decoder, asks for. -/
def Obligations.WellFormedIffDecodes : Prop :=
  ∀ bytes : List Byte, wellFormed bytes = true ↔ ∃ i : Instr, decode bytes = .instr i []

/-- R76: the 27 op codes that have no instruction, and no others. -/
def Obligations.UnusedOpcodesAreThe27 : Prop :=
  ∀ (op : Byte) (rest : List Byte),
    decode (op :: rest) = .unusedOpcode op ↔
      op ∈ [0x04#8, 0x14#8, 0x1C#8, 0x34#8, 0x3C#8, 0x43#8, 0x44#8, 0x53#8, 0x54#8, 0x5C#8, 0x63#8,
        0x73#8, 0x82#8, 0x83#8, 0x92#8, 0x93#8, 0x9C#8, 0x9E#8, 0xA3#8, 0xB3#8, 0xC3#8, 0xD3#8,
        0xDC#8, 0xE3#8, 0xF3#8, 0xF4#8, 0xFC#8]

/-- R72: the number in bits 6 to 4 of the op code, in the groups that carry one: `0bbb0111`,
`1bbb0111`, `0bbb1111`, `1bbb1111`, `0nnn1011`. -/
def Obligations.BitNumberFieldOfOpcode : Prop :=
  ∀ (b : Fin 8) (n r : Byte),
    encode (rmbForm n b) = [BitVec.ofNat 8 (16 * b.val + 0x07), n] ∧
    encode (smbForm n b) = [BitVec.ofNat 8 (16 * b.val + 0x87), n] ∧
    encode (bbrForm n r b) = [BitVec.ofNat 8 (16 * b.val + 0x0F), n, r] ∧
    encode (bbsForm n r b) = [BitVec.ofNat 8 (16 * b.val + 0x8F), n, r] ∧
    encode (jsbForm b) = [BitVec.ofNat 8 (16 * b.val + 0x0B)]

/-- R74, R100 to R102, R106, R109, R113 to R118, R120, R166, R251, R275: words of every family,
written out from the examples of the spec. -/
def Obligations.SampleWordsDecode : Prop :=
  decode [0xA9, 0x7F] = .instr (.ldaImm 0x7F) [] ∧
  decode [0xAD, 0x34, 0x12] = .instr (.ldaAbs 0x1234) [] ∧
  decode [0xB1, 0x40] = .instr (.ldaIndX 0x40) [] ∧
  decode [0xB2, 0x55, 0x10] = .instr (.sti 0x55 0x10) [] ∧
  decode [0xE9, 0x10] = .instr (.sbcImm 0x10) [] ∧
  decode [0x0A] = .instr .aslA [] ∧
  decode [0xA7, 0x20] = .instr (.smb2 0x20) [] ∧
  decode [0x8F, 0x20, 0x05] = .instr (.bbs0 0x20 0x05) [] ∧
  decode [0xD2, 0x81, 0x00, 0x30] = .instr (.sba 0x81 0x3000) [] ∧
  decode [0xF2, 0x00, 0x30, 0x81, 0x10] = .instr (.bas 0x3000 0x81 0x10) [] ∧
  decode [0x7C, 0x00, 0x20] = .instr (.jmpIndX 0x2000) [] ∧
  decode [0x2B] = .instr .jsb2 [] ∧
  decode [0x48] = .instr .pha [] ∧
  decode [0x0C, 0x00, 0x30] = .instr (.jpi 0x3000) [] ∧
  decode [0x18] = .instr .clc []

/-! ### The step -/

/-- With no request to take at the boundary, when the bytes that memory holds at PC decode to an
instruction, the step is that instruction's execution.  Its bytes have been fetched before, one
cycle each (R47); those of BBR, BBS, BAR and BAS that come after their data read are fetched by
the execution itself (R49). -/
def Obligations.StepRunsDecodedInstruction : Prop :=
  ∀ (s : State) (i : Instr), s.Quiet →
    s.CodeStored s.pc (encode i).length →
    decode (s.codeBytes s.pc (encode i).length) = .instr i [] →
    step s = exec i { s with bus := { s.bus with cycles := s.bus.cycles + earlyBytes i } }

/-- R300, R317: no instruction can fail: the execution of every instruction in every state gives a
next state. -/
def Obligations.EveryInstructionCompletes : Prop :=
  ∀ (i : Instr) (s : State), ∃ t : State, exec i s = .next t

/-- R76, R315: a step never declines, and it stops exactly where no request is taken and the byte
fetched as an op code is one of the 27 unused ones, which the fault names.  That the machine stops
there is the spec's decision D15 (log entry 12). -/
def Obligations.StepStopsOnlyOnUnusedOpcode : Prop :=
  ∀ s : State,
    (∀ r : Refusal, step s ≠ .refused r) ∧
    (∀ f : Fault, step s = .fault f ↔
      s.Quiet ∧ s.peek s.pc ∈ unusedOpcodes ∧ f = .unusedOpcode (s.peek s.pc) s.pc)

/-! ### Addresses and memory -/

/-- R103 to R110, R46: the effective address of each mode, by arithmetic.  That the pointer of (n)
and (n),X wraps in page zero and that 16-bit sums wrap are the spec's decisions D6 and D8 (log
entry 8). -/
def Obligations.EffectiveAddressOfEachMode : Prop :=
  ∀ (s : State) (k : Access) (n : Byte) (nn : Word),
    (s.resolve k (.zp n)).1.toNat = n.toNat ∧
    (s.resolve k (.zpX n)).1.toNat = (n.toNat + s.x.toNat) % 256 ∧
    (s.resolve k (.zpY n)).1.toNat = (n.toNat + s.y.toNat) % 256 ∧
    (s.resolve k (.abs nn)).1 = nn ∧
    (s.resolve k (.absX nn)).1.toNat = (nn.toNat + s.x.toNat) % 65536 ∧
    (s.resolve k (.absY nn)).1.toNat = (nn.toNat + s.y.toNat) % 65536 ∧
    (s.Stored (zext n) → s.Stored (zext (n + 1)) →
      (s.resolve k (.ind n)).1.toNat =
        256 * (s.byteAt (zext (n + 1))).toNat + (s.byteAt (zext n)).toNat ∧
      (s.resolve k (.indX n)).1.toNat =
        (256 * (s.byteAt (zext (n + 1))).toNat + (s.byteAt (zext n)).toNat + s.x.toNat) % 65536)

/-- R102, R119, R48: the operand byte is the immediate byte, or the byte stored at the effective
address; forming the address and reading change nothing but the record of the bus. -/
def Obligations.OperandByteIsStoredByte : Prop :=
  ∀ s : State,
    (∀ n : Byte, s.operand (.imm n) = (n, s)) ∧
    (∀ m : Mode, s.Stored (s.resolve .read m).1 →
      (s.operand (.mem m)).1 = s.byteAt (s.resolve .read m).1) ∧
    (∀ o : Operand, (s.operand o).2 = { s with bus := (s.operand o).2.bus }) ∧
    (∀ (k : Access) (m : Mode), (s.resolve k m).2 = { s with bus := (s.resolve k m).2.bus })

/-- R42, R44: one byte access in each kind of region.  Memory yields the stored byte; read/write
memory takes a written byte and read-only memory ignores it; a device window gets every access, in
order, and yields a fresh free byte; where nothing is, a read yields a fresh free byte and a write
is discarded. The treatment of read-only memory, of nothing, and of devices is the spec's decision
D20 (log entry 5). -/
def Obligations.AccessInEachKindOfRegion : Prop :=
  ∀ (s : State) (a : Word) (v : Byte),
    StoresBytes s (s.write a v) [(a, v)] ∧
    s.touch a = { s with bus := (s.touch a).bus } ∧
    s.write a v = { s with mem := (s.write a v).mem, bus := (s.write a v).bus } ∧
    (s.Stored a → s.peek a = s.byteAt a ∧ (s.touch a).bus.io = s.bus.io ∧
      (s.touch a).bus.draws = s.bus.draws ∧ (s.write a v).bus.io = s.bus.io) ∧
    (s.kindAt a = .io → s.peek a = Config.freeByte s.bus.draws ∧
      (s.touch a).bus.draws = s.bus.draws + 1 ∧
      (s.touch a).bus.io = s.bus.io ++ [.read a (s.peek a)] ∧
      (s.write a v).bus.io = s.bus.io ++ [.write a v]) ∧
    (s.kindAt a = .unmapped → s.peek a = Config.freeByte s.bus.draws ∧
      (s.touch a).bus.draws = s.bus.draws + 1 ∧ (s.touch a).bus.io = s.bus.io ∧
      (s.write a v).bus.io = s.bus.io)

/-- Every step keeps the canonical form of memory, from any state that has it. -/
def Obligations.MemoryFormKeptByStep : Prop :=
  ∀ s t : State, Memory.wf s.mem = true → step s = .next t → Memory.wf t.mem = true

/-- R42, R55: no step of any kind changes a byte at an address that is not read/write memory,
whatever the state.  The spec's decision D20 (log entry 5); that memory is kept in a step that takes
a reset is the model's choice (log entry 25). -/
def Obligations.OnlyReadWriteMemoryChanges : Prop :=
  ∀ s t : State, step s = .next t → ∀ a : Word, s.kindAt a ≠ .ram → t.byteAt a = s.byteAt a

/-- R28, R331: what the spec fixes of the state after the start sequence (D = 0, I_flag =
`RESET_I` = 1, no request pending, PC from the vector); memory lists nothing and has its canonical
form.  `RESET_I` and the clearing of requests are the spec's decision D19, and the empty memory is
the model's choice (log entries 2 and 15).  The other registers rest on log entry 1, and nothing is
said of them. -/
def Obligations.ResetStateAsGiven : Prop :=
  State.reset.p.d = false ∧ State.reset.p.i = true ∧
    State.reset.resetPending = false ∧ State.reset.nmiPending = false ∧
    (∀ l ∈ State.reset.irqs, l.pending = false) ∧
    State.reset.pc = State.reset.wordAt 0xFFFE ∧
    State.reset.mem = [] ∧ Memory.wf State.reset.mem = true

/-! ### Load, store and transfer -/

/-- R130 to R132: LDA, LDX, LDY in every form: the register takes the operand byte, N and Z
describe it, PC passes the instruction, and nothing else changes. -/
def Obligations.LoadResults : Prop :=
  ∀ (s : State) (n : Byte) (nn : Word),
    (∀ f ∈ ldaForms n nn, IsEncoded f.op f.instr (operandLength f.operand) ∧
      ∃ t : State, exec f.instr s = .next t ∧
        t = { s with
          a := (s.operand f.operand).1
          p := { s.p with
            n := (s.operand f.operand).1.msb, z := decide ((s.operand f.operand).1 = 0) }
          pc := s.pc + BitVec.ofNat 16 (operandLength f.operand)
          bus := t.bus }) ∧
    (∀ f ∈ ldxForms n nn, IsEncoded f.op f.instr (operandLength f.operand) ∧
      ∃ t : State, exec f.instr s = .next t ∧
        t = { s with
          x := (s.operand f.operand).1
          p := { s.p with
            n := (s.operand f.operand).1.msb, z := decide ((s.operand f.operand).1 = 0) }
          pc := s.pc + BitVec.ofNat 16 (operandLength f.operand)
          bus := t.bus }) ∧
    (∀ f ∈ ldyForms n nn, IsEncoded f.op f.instr (operandLength f.operand) ∧
      ∃ t : State, exec f.instr s = .next t ∧
        t = { s with
          y := (s.operand f.operand).1
          p := { s.p with
            n := (s.operand f.operand).1.msb, z := decide ((s.operand f.operand).1 = 0) }
          pc := s.pc + BitVec.ofNat 16 (operandLength f.operand)
          bus := t.bus })

/-- R133 to R136: STA, STX, STY in every form and STI: the byte goes to the effective address,
every other byte of memory is unchanged, PC passes the instruction, no register and no flag
changes. -/
def Obligations.StoreResults : Prop :=
  ∀ (s : State) (n : Byte) (nn : Word),
    (∀ f ∈ staForms n nn, IsEncoded f.op f.instr (modeLength f.mode) ∧
      ∃ t : State, exec f.instr s = .next t ∧
        t = { s with
          mem := t.mem, pc := s.pc + BitVec.ofNat 16 (modeLength f.mode), bus := t.bus } ∧
        StoresBytes s t [((s.resolve .write f.mode).1, s.a)]) ∧
    (∀ f ∈ stxForms n nn, IsEncoded f.op f.instr (modeLength f.mode) ∧
      ∃ t : State, exec f.instr s = .next t ∧
        t = { s with
          mem := t.mem, pc := s.pc + BitVec.ofNat 16 (modeLength f.mode), bus := t.bus } ∧
        StoresBytes s t [((s.resolve .write f.mode).1, s.x)]) ∧
    (∀ f ∈ styForms n nn, IsEncoded f.op f.instr (modeLength f.mode) ∧
      ∃ t : State, exec f.instr s = .next t ∧
        t = { s with
          mem := t.mem, pc := s.pc + BitVec.ofNat 16 (modeLength f.mode), bus := t.bus } ∧
        StoresBytes s t [((s.resolve .write f.mode).1, s.y)]) ∧
    (∀ constant : Byte, IsEncoded 0xB2 (.sti constant n) 3 ∧
      ∃ t : State, exec (.sti constant n) s = .next t ∧
        t = { s with mem := t.mem, pc := s.pc + 3, bus := t.bus } ∧
        StoresBytes s t [(zext n, constant)])

/-- R137: EXC: A and the byte at (n + X) mod 256 change places; no flag is written. -/
def Obligations.ExchangeResult : Prop :=
  ∀ (s : State) (n : Byte), IsEncoded 0xD4 (.exc n) 2 ∧
    ∃ t : State, exec (.exc n) s = .next t ∧
      t = { s with a := t.a, mem := t.mem, pc := s.pc + 2, bus := t.bus } ∧
      (s.Stored (zext (n + s.x)) → t.a = s.byteAt (zext (n + s.x))) ∧
      StoresBytes s t [((s.resolve .write (.zpX n)).1, s.a)]

/-- R138 to R143: the register transfers; TXS alone writes no flag. -/
def Obligations.TransferResults : Prop :=
  ∀ s : State,
    (IsEncoded 0xAA .tax 1 ∧ ∃ t : State, exec .tax s = .next t ∧
      t = { s with
        x := s.a, p := { s.p with n := s.a.msb, z := decide (s.a = 0) }
        pc := s.pc + 1, bus := t.bus }) ∧
    (IsEncoded 0xA8 .tay 1 ∧ ∃ t : State, exec .tay s = .next t ∧
      t = { s with
        y := s.a, p := { s.p with n := s.a.msb, z := decide (s.a = 0) }
        pc := s.pc + 1, bus := t.bus }) ∧
    (IsEncoded 0x8A .txa 1 ∧ ∃ t : State, exec .txa s = .next t ∧
      t = { s with
        a := s.x, p := { s.p with n := s.x.msb, z := decide (s.x = 0) }
        pc := s.pc + 1, bus := t.bus }) ∧
    (IsEncoded 0x98 .tya 1 ∧ ∃ t : State, exec .tya s = .next t ∧
      t = { s with
        a := s.y, p := { s.p with n := s.y.msb, z := decide (s.y = 0) }
        pc := s.pc + 1, bus := t.bus }) ∧
    (IsEncoded 0xBA .tsx 1 ∧ ∃ t : State, exec .tsx s = .next t ∧
      t = { s with
        x := s.sp, p := { s.p with n := s.sp.msb, z := decide (s.sp = 0) }
        pc := s.pc + 1, bus := t.bus }) ∧
    (IsEncoded 0x9A .txs 1 ∧ ∃ t : State, exec .txs s = .next t ∧
      t = { s with sp := s.x, pc := s.pc + 1, bus := t.bus })

/-! ### Arithmetic and logic -/

/-- R160, R162, R163: ADC and ADD in binary mode, every form: the sum mod 256; C says that it
exceeds 255, V that the signed sum is outside -128..127, N and Z describe the byte; nothing else
changes. -/
def Obligations.AddBinaryResults : Prop :=
  ∀ (s : State) (n : Byte) (nn : Word), s.p.d = false →
    ∀ f : ReadForm, ∀ carry : Nat,
      ((f ∈ adcForms n nn ∧ carry = if s.p.c = true then 1 else 0) ∨
        (f ∈ addForms n nn ∧ carry = 0)) →
      IsEncoded f.op f.instr (operandLength f.operand) ∧
      ∃ t : State, exec f.instr s = .next t ∧
        t = { s with
          a := t.a
          p := { s.p with n := t.a.msb, v := t.p.v, z := decide (t.a = 0), c := t.p.c }
          pc := s.pc + BitVec.ofNat 16 (operandLength f.operand)
          bus := t.bus } ∧
        t.a.toNat = (s.a.toNat + (s.operand f.operand).1.toNat + carry) % 256 ∧
        (t.p.c = true ↔ s.a.toNat + (s.operand f.operand).1.toNat + carry > 255) ∧
        (t.p.v = true ↔
          s.a.toInt + (s.operand f.operand).1.toInt + carry > 127 ∨
          s.a.toInt + (s.operand f.operand).1.toInt + carry < -128)

/-- R164, R166: SBC in binary mode, every form: the difference mod 256 with the borrow 1 - C; C
says that it is not negative, N and Z describe the byte.  That V says that the signed difference
is outside -128..127 is the spec's decision D32 (log entry 14). -/
def Obligations.SubtractBinaryResults : Prop :=
  ∀ (s : State) (n : Byte) (nn : Word), s.p.d = false →
    ∀ f ∈ sbcForms n nn, ∀ borrow : Int, (borrow = if s.p.c = true then 0 else 1) →
      IsEncoded f.op f.instr (operandLength f.operand) ∧
      ∃ t : State, exec f.instr s = .next t ∧
        t = { s with
          a := t.a
          p := { s.p with n := t.a.msb, v := t.p.v, z := decide (t.a = 0), c := t.p.c }
          pc := s.pc + BitVec.ofNat 16 (operandLength f.operand)
          bus := t.bus } ∧
        (t.a.toNat : Int) =
          ((s.a.toNat : Int) - (s.operand f.operand).1.toNat - borrow) % 256 ∧
        (t.p.c = true ↔ (s.a.toNat : Int) - (s.operand f.operand).1.toNat - borrow ≥ 0) ∧
        (t.p.v = true ↔
          s.a.toInt - (s.operand f.operand).1.toInt - borrow > 127 ∨
          s.a.toInt - (s.operand f.operand).1.toInt - borrow < -128)

/-- R161, R165: ADC, ADD and SBC in decimal mode on packed BCD operands: the decimal sum or
difference mod 100, again packed BCD; C says that the sum exceeds 99, or that the difference is
not negative; V = 0; N and Z describe the byte.  The spec's decision D31 (log entry 14). -/
def Obligations.DecimalResults : Prop :=
  ∀ (s : State) (n : Byte) (nn : Word) (f : ReadForm), s.p.d = true →
    isBcd s.a = true → isBcd (s.operand f.operand).1 = true →
    ∀ carry : Nat, (carry = if s.p.c = true then 1 else 0) →
    (∀ cin : Nat, (f ∈ adcForms n nn ∧ cin = carry) ∨ (f ∈ addForms n nn ∧ cin = 0) →
      ∃ t : State, exec f.instr s = .next t ∧
        t = { s with
          a := t.a
          p := { s.p with n := t.a.msb, v := false, z := decide (t.a = 0), c := t.p.c }
          pc := s.pc + BitVec.ofNat 16 (operandLength f.operand)
          bus := t.bus } ∧
        isBcd t.a = true ∧ dec t.a = (dec s.a + dec (s.operand f.operand).1 + cin) % 100 ∧
        (t.p.c = true ↔ dec s.a + dec (s.operand f.operand).1 + cin > 99)) ∧
    (f ∈ sbcForms n nn →
      ∃ t : State, exec f.instr s = .next t ∧
        t = { s with
          a := t.a
          p := { s.p with n := t.a.msb, v := false, z := decide (t.a = 0), c := t.p.c }
          pc := s.pc + BitVec.ofNat 16 (operandLength f.operand)
          bus := t.bus } ∧
        isBcd t.a = true ∧
        (dec t.a : Int) =
          ((dec s.a : Int) - dec (s.operand f.operand).1 - (1 - (carry : Int))) % 100 ∧
        (t.p.c = true ↔
          (dec s.a : Int) - dec (s.operand f.operand).1 - (1 - (carry : Int)) ≥ 0))

/-- R161, R165: in decimal mode on an operand that is not packed BCD, ADC, ADD and SBC still
complete: A, N, Z and C are open, V = 0, and nothing else changes.  The spec's decision D16 (log
entry 14). -/
def Obligations.DecimalOnInvalidOperands : Prop :=
  ∀ (s : State) (n : Byte) (nn : Word), s.p.d = true →
    ∀ f ∈ adcForms n nn ++ addForms n nn ++ sbcForms n nn,
      (isBcd s.a = false ∨ isBcd (s.operand f.operand).1 = false) →
      ∃ t : State, exec f.instr s = .next t ∧
        t = { s with
          a := t.a
          p := { s.p with n := t.p.n, v := false, z := t.p.z, c := t.p.c }
          pc := s.pc + BitVec.ofNat 16 (operandLength f.operand)
          bus := t.bus }

/-- R167 to R169: AND, ORA, EOR in every form, bit by bit; N and Z describe the result. -/
def Obligations.LogicResults : Prop :=
  ∀ (s : State) (n : Byte) (nn : Word) (f : ReadForm) (op : Bool → Bool → Bool),
    ((f ∈ andForms n nn ∧ op = and) ∨ (f ∈ oraForms n nn ∧ op = or) ∨
      (f ∈ eorForms n nn ∧ op = xor)) →
    IsEncoded f.op f.instr (operandLength f.operand) ∧
    ∃ t : State, exec f.instr s = .next t ∧
      t = { s with
        a := t.a
        p := { s.p with n := t.a.msb, z := decide (t.a = 0) }
        pc := s.pc + BitVec.ofNat 16 (operandLength f.operand)
        bus := t.bus } ∧
      ∀ b : Fin 8, bitOf t.a b = op (bitOf s.a b) (bitOf (s.operand f.operand).1 b)

/-- R170 to R174: BIT takes N and V from the operand byte and Z from its conjunction with A; CMP,
CPX, CPY set C when the register is not below the operand (unsigned), Z when they are equal, N
from bit 7 of the difference mod 256, and leave V; no register changes but PC. -/
def Obligations.BitTestAndCompareResults : Prop :=
  ∀ (s : State) (n : Byte) (nn : Word),
    (∀ f ∈ bitForms n nn, IsEncoded f.op f.instr (operandLength f.operand) ∧
      ∃ t : State, exec f.instr s = .next t ∧
        t = { s with
          p := { s.p with
            n := bitOf (s.operand f.operand).1 7, v := bitOf (s.operand f.operand).1 6
            z := decide (s.a &&& (s.operand f.operand).1 = 0) }
          pc := s.pc + BitVec.ofNat 16 (operandLength f.operand)
          bus := t.bus }) ∧
    (∀ (f : ReadForm) (r : Byte),
      ((f ∈ cmpForms n nn ∧ r = s.a) ∨ (f ∈ cpxForms n nn ∧ r = s.x) ∨
        (f ∈ cpyForms n nn ∧ r = s.y)) →
      IsEncoded f.op f.instr (operandLength f.operand) ∧
      ∃ t : State, exec f.instr s = .next t ∧
        t = { s with
          p := { s.p with
            n := decide (((r.toNat : Int) - (s.operand f.operand).1.toNat) % 256 ≥ 128)
            z := decide (r = (s.operand f.operand).1)
            c := decide (r.toNat ≥ (s.operand f.operand).1.toNat) }
          pc := s.pc + BitVec.ofNat 16 (operandLength f.operand)
          bus := t.bus })

/-- R175, R176, R50: INC and DEC of a byte in memory, every form: the new byte is written once, at
the effective address; N and Z describe it; C and V stay. -/
def Obligations.IncrementMemoryResults : Prop :=
  ∀ (s : State) (n : Byte) (nn : Word) (f : MemForm) (d : Int),
    ((f ∈ incForms n nn ∧ d = 1) ∨ (f ∈ decForms n nn ∧ d = -1)) →
    IsEncoded f.op f.instr (modeLength f.mode) ∧
    ∃ (t : State) (old new : Byte), exec f.instr s = .next t ∧
      (s.Stored (s.resolve .write f.mode).1 → old = s.byteAt (s.resolve .write f.mode).1) ∧
      (new.toNat : Int) = (old.toNat + d) % 256 ∧
      t = { s with
        mem := t.mem
        p := { s.p with n := new.msb, z := decide (new = 0) }
        pc := s.pc + BitVec.ofNat 16 (modeLength f.mode)
        bus := t.bus } ∧
      StoresBytes s t [((s.resolve .write f.mode).1, new)]

/-- R177 to R182: INX, INY, DEX, DEY, NEG and LAB: arithmetic mod 256, N and Z of the result, C
and V stay; 0x80 stays 0x80 under NEG and LAB. -/
def Obligations.RegisterArithmeticResults : Prop :=
  ∀ s : State,
    (IsEncoded 0xE8 .inx 1 ∧ ∃ t : State, exec .inx s = .next t ∧
      t = { s with
        x := t.x, p := { s.p with n := t.x.msb, z := decide (t.x = 0) }
        pc := s.pc + 1, bus := t.bus } ∧ t.x.toNat = (s.x.toNat + 1) % 256 ∧
      TakesCycles s t .inx 2) ∧
    (IsEncoded 0xC8 .iny 1 ∧ ∃ t : State, exec .iny s = .next t ∧
      t = { s with
        y := t.y, p := { s.p with n := t.y.msb, z := decide (t.y = 0) }
        pc := s.pc + 1, bus := t.bus } ∧ t.y.toNat = (s.y.toNat + 1) % 256 ∧
      TakesCycles s t .iny 2) ∧
    (IsEncoded 0xCA .dex 1 ∧ ∃ t : State, exec .dex s = .next t ∧
      t = { s with
        x := t.x, p := { s.p with n := t.x.msb, z := decide (t.x = 0) }
        pc := s.pc + 1, bus := t.bus } ∧ t.x.toNat = (s.x.toNat + 255) % 256 ∧
      TakesCycles s t .dex 2) ∧
    (IsEncoded 0x88 .dey 1 ∧ ∃ t : State, exec .dey s = .next t ∧
      t = { s with
        y := t.y, p := { s.p with n := t.y.msb, z := decide (t.y = 0) }
        pc := s.pc + 1, bus := t.bus } ∧ t.y.toNat = (s.y.toNat + 255) % 256 ∧
      TakesCycles s t .dey 2) ∧
    (IsEncoded 0x1A .negA 1 ∧ ∃ t : State, exec .negA s = .next t ∧
      t = { s with
        a := t.a, p := { s.p with n := t.a.msb, z := decide (t.a = 0) }
        pc := s.pc + 1, bus := t.bus } ∧ t.a = BitVec.ofInt 8 (-s.a.toInt) ∧
      TakesCycles s t .negA 2) ∧
    (IsEncoded 0x13 .labA 1 ∧ ∃ t : State, exec .labA s = .next t ∧
      t = { s with
        a := t.a, p := { s.p with n := t.a.msb, z := decide (t.a = 0) }
        pc := s.pc + 1, bus := t.bus } ∧ t.a.toNat = s.a.toInt.natAbs ∧
      TakesCycles s t .labA 3)

/-! ### Shift, multiply and W -/

/-- R190 to R193, R50: ASL, LSR, ROL, ROR of a byte in memory, every form, as arithmetic on the
byte and the carry; C is the bit that leaves; N and Z describe the result; V and A stay. -/
def Obligations.ShiftMemoryResults : Prop :=
  ∀ (s : State) (n : Byte) (nn : Word) (f : MemForm) (shift : Nat → Nat) (out : Nat → Nat),
    ((f ∈ aslForms n nn ∧ shift = (fun v => 2 * v % 256) ∧ out = (fun v => v / 128)) ∨
      (f ∈ lsrForms n nn ∧ shift = (fun v => v / 2) ∧ out = (fun v => v % 2)) ∨
      (f ∈ rolForms n nn ∧ shift = (fun v => 2 * v % 256 + if s.p.c = true then 1 else 0) ∧
        out = (fun v => v / 128)) ∨
      (f ∈ rorForms n nn ∧ shift = (fun v => v / 2 + if s.p.c = true then 128 else 0) ∧
        out = (fun v => v % 2))) →
    IsEncoded f.op f.instr (modeLength f.mode) ∧
    ∃ (t : State) (old new : Byte), exec f.instr s = .next t ∧
      (s.Stored (s.resolve .write f.mode).1 → old = s.byteAt (s.resolve .write f.mode).1) ∧
      new.toNat = shift old.toNat ∧
      t = { s with
        mem := t.mem
        p := { s.p with
          n := new.msb, z := decide (new = 0), c := decide (out old.toNat = 1) }
        pc := s.pc + BitVec.ofNat 16 (modeLength f.mode)
        bus := t.bus } ∧
      StoresBytes s t [((s.resolve .write f.mode).1, new)]

/-- R190 to R194: the accumulator forms of the shifts, and ASR, which halves the signed value
rounding down; memory is unaffected. -/
def Obligations.ShiftAccumulatorResults : Prop :=
  ∀ (s : State) (op : Byte) (i : Instr) (result : Nat) (out : Nat),
    ((op = 0x0A ∧ i = .aslA ∧ result = 2 * s.a.toNat % 256 ∧ out = s.a.toNat / 128) ∨
      (op = 0x4A ∧ i = .lsrA ∧ result = s.a.toNat / 2 ∧ out = s.a.toNat % 2) ∨
      (op = 0x2A ∧ i = .rolA ∧ result = 2 * s.a.toNat % 256 + (if s.p.c = true then 1 else 0) ∧
        out = s.a.toNat / 128) ∨
      (op = 0x6A ∧ i = .rorA ∧ result = s.a.toNat / 2 + (if s.p.c = true then 128 else 0) ∧
        out = s.a.toNat % 2) ∨
      (op = 0x3A ∧ i = .asrA ∧ result = (BitVec.ofInt 8 (s.a.toInt / 2)).toNat ∧
        out = s.a.toNat % 2)) →
    IsEncoded op i 1 ∧
    ∃ t : State, exec i s = .next t ∧
      t = { s with
        a := t.a
        p := { s.p with n := t.a.msb, z := decide (t.a = 0), c := decide (out = 1) }
        pc := s.pc + 1
        bus := t.bus } ∧
      t.a.toNat = result

/-- R195: MPY: A:Y is the signed product of A and Y, exactly; V = 0, N is the sign of A; Z, C and
W stay. -/
def Obligations.MultiplyResult : Prop :=
  ∀ s : State, IsEncoded 0x02 .mpy 1 ∧
    ∃ t : State, exec .mpy s = .next t ∧
      t = { s with
        a := t.a, y := t.y, p := { s.p with n := t.a.msb, v := false }
        pc := s.pc + 1, bus := t.bus } ∧
      (wordOf t.a t.y).toInt = s.a.toInt * s.y.toInt ∧ TakesCycles s t .mpy 6

/-- R196: MPA: W takes the signed sum of W and the product, saturated to -32768..32767; V says
that it saturated, N is bit 15 of the W that is left (the spec's decision D18); Y is open (D17,
log entry 6); A, Z and C stay. -/
def Obligations.MultiplyAccumulateResult : Prop :=
  ∀ s : State, IsEncoded 0x12 .mpa 1 ∧
    ∃ t : State, exec .mpa s = .next t ∧
      t = { s with
        y := t.y, w := t.w, p := { s.p with n := t.w.msb, v := t.p.v }
        pc := s.pc + 1, bus := t.bus } ∧
      t.w.toInt = max (-32768) (min 32767 (s.w.toInt + s.a.toInt * s.y.toInt)) ∧
      (t.p.v = true ↔
        s.w.toInt + s.a.toInt * s.y.toInt > 32767 ∨
        s.w.toInt + s.a.toInt * s.y.toInt < -32768)

/-- R197: RND: A is W / 256 rounded to the nearest (halves up) and held at 127; V says that it was
held, and then Y is open (the spec's decision D17, log entry 6), else Y stays; N is the sign of A;
W, Z and C stay. -/
def Obligations.RoundResult : Prop :=
  ∀ s : State, IsEncoded 0x42 .rnd 1 ∧
    ∃ t : State, exec .rnd s = .next t ∧
      t = { s with
        a := t.a, y := t.y, p := { s.p with n := t.a.msb, v := t.p.v }
        pc := s.pc + 1, bus := t.bus } ∧
      t.a.toInt = min 127 ((s.w.toInt + 128) / 256) ∧
      (t.p.v = true ↔ (s.w.toInt + 128) / 256 > 127) ∧
      (t.p.v = false → t.y = s.y)

/-- R198 to R200: TAW, TWA and CLW. -/
def Obligations.WMoveResults : Prop :=
  ∀ s : State,
    (IsEncoded 0x62 .taw 1 ∧ ∃ t : State, exec .taw s = .next t ∧
      t = { s with
        w := t.w, p := { s.p with n := s.a.msb, z := decide (s.a = 0) }
        pc := s.pc + 1, bus := t.bus } ∧ t.w.toNat = 256 * s.a.toNat ∧
      TakesCycles s t .taw 2) ∧
    (IsEncoded 0x72 .twa 1 ∧ ∃ t : State, exec .twa s = .next t ∧
      t = { s with
        a := t.a, p := { s.p with n := t.a.msb, z := decide (t.a = 0) }
        pc := s.pc + 1, bus := t.bus } ∧ t.a.toNat = s.w.toNat / 256 ∧
      TakesCycles s t .twa 2) ∧
    (IsEncoded 0x52 .clw 1 ∧ ∃ t : State, exec .clw s = .next t ∧
      t = { s with w := 0, p := { s.p with v := false }, pc := s.pc + 1, bus := t.bus } ∧
      TakesCycles s t .clw 2)

/-! ### Bits -/

/-- R210, R211: RMB and SMB of every bit: that bit of the page zero byte becomes 0 or 1, its other
bits are written back as read; no register and no flag changes. -/
def Obligations.SetResetBitResults : Prop :=
  ∀ (s : State) (n : Byte) (b : Fin 8) (i : Instr) (value : Bool),
    ((i = rmbForm n b ∧ value = false) ∨ (i = smbForm n b ∧ value = true)) →
    ∃ (t : State) (old new : Byte), exec i s = .next t ∧
      (s.Stored (zext n) → old = s.byteAt (zext n)) ∧
      (∀ k : Fin 8, bitOf new k = if k = b then value else bitOf old k) ∧
      t = { s with mem := t.mem, pc := s.pc + 2, bus := t.bus } ∧
      StoresBytes s t [(zext n, new)]

/-- R212, R213: RBA and SBA: the bits that are 1 in the mask become 0 or 1, the others are written
back as read; A is open afterwards (the spec's decision D17, log entry 6); no flag and no other
register but PC changes. -/
def Obligations.MaskedSetResetResults : Prop :=
  ∀ (s : State) (mask : Byte) (nn : Word) (op : Byte) (i : Instr) (value : Bool),
    ((op = 0xC2 ∧ i = .rba mask nn ∧ value = false) ∨
      (op = 0xD2 ∧ i = .sba mask nn ∧ value = true)) →
    IsEncoded op i 4 ∧
    ∃ (t : State) (old new : Byte), exec i s = .next t ∧
      (s.Stored nn → old = s.byteAt nn) ∧
      (∀ k : Fin 8, bitOf new k = if bitOf mask k = true then value else bitOf old k) ∧
      t = { s with a := t.a, mem := t.mem, pc := s.pc + 4, bus := t.bus } ∧
      StoresBytes s t [(nn, new)]

/-- R214, R215: BBR and BBS of every bit: PC is the next instruction, or that plus the signed
offset when the bit of the page zero byte is 0, or 1; only PC changes.  The base of the offset is
the spec's decision D24 (log entry 11). -/
def Obligations.BitBranchResults : Prop :=
  ∀ (s : State) (n r : Byte) (b : Fin 8) (i : Instr) (value : Bool),
    ((i = bbrForm n r b ∧ value = false) ∨ (i = bbsForm n r b ∧ value = true)) →
    ∃ (t : State) (byte : Byte), exec i s = .next t ∧
      (s.Stored (zext n) → byte = s.byteAt (zext n)) ∧
      t = { s with
        pc := if bitOf byte b = value then BitVec.ofInt 16 (s.pc.toNat + 3 + r.toInt)
          else s.pc + 3
        bus := t.bus }

/-- R216, R217: BAR and BAS: the branch is taken when some bit that is 1 in the mask is 0, or 1,
in the byte; only PC changes.  The base of the offset is the spec's decision D24 (log entry 11).
-/
def Obligations.MaskBranchResults : Prop :=
  ∀ (s : State) (nn : Word) (mask r : Byte) (op : Byte) (i : Instr) (value : Bool),
    ((op = 0xE2 ∧ i = .bar nn mask r ∧ value = false) ∨
      (op = 0xF2 ∧ i = .bas nn mask r ∧ value = true)) →
    IsEncoded op i 5 ∧
    ∃ (t : State) (byte : Byte), exec i s = .next t ∧
      (s.Stored nn → byte = s.byteAt nn) ∧
      t = { s with
        pc := if ∃ k : Fin 8, bitOf mask k = true ∧ bitOf byte k = value then
            BitVec.ofInt 16 (s.pc.toNat + 5 + r.toInt)
          else s.pc + 5
        bus := t.bus }

/-! ### Branch, jump, call and return -/

/-- R220 to R229: the eight conditional branches and BRA: the condition is one flag, the target is
the address of the next instruction plus the signed offset, mod 65536; only PC changes. -/
def Obligations.RelativeBranchResults : Prop :=
  ∀ (s : State) (r : Byte) (op : Byte) (i : Instr) (cond : Bool),
    ((op = 0x90 ∧ i = .bcc r ∧ cond = !s.p.c) ∨ (op = 0xB0 ∧ i = .bcs r ∧ cond = s.p.c) ∨
      (op = 0xF0 ∧ i = .beq r ∧ cond = s.p.z) ∨ (op = 0x30 ∧ i = .bmi r ∧ cond = s.p.n) ∨
      (op = 0xD0 ∧ i = .bne r ∧ cond = !s.p.z) ∨ (op = 0x10 ∧ i = .bpl r ∧ cond = !s.p.n) ∨
      (op = 0x50 ∧ i = .bvc r ∧ cond = !s.p.v) ∨ (op = 0x70 ∧ i = .bvs r ∧ cond = s.p.v) ∨
      (op = 0x80 ∧ i = .bra r ∧ cond = true)) →
    IsEncoded op i 2 ∧
    ∃ t : State, exec i s = .next t ∧
      t = { s with
        pc := if cond = true then BitVec.ofInt 16 (s.pc.toNat + 2 + r.toInt) else s.pc + 2
        bus := t.bus }

/-- R230 to R232, R112, R113: the three forms of JMP; the pointer of the indirect ones crosses
pages; only PC changes.  That the pointer's sums wrap is the spec's decision D8 (log entry 8). -/
def Obligations.JumpResults : Prop :=
  ∀ (s : State) (nn : Word),
    (IsEncoded 0x4C (.jmpAbs nn) 3 ∧ exec (.jmpAbs nn) s = .next { s with pc := nn }) ∧
    (IsEncoded 0x6C (.jmpInd nn) 3 ∧ ∃ t : State, exec (.jmpInd nn) s = .next t ∧
      t = { s with pc := t.pc, bus := t.bus } ∧ (s.WordStored nn → t.pc = s.wordAt nn)) ∧
    (IsEncoded 0x7C (.jmpIndX nn) 3 ∧ ∃ t : State, exec (.jmpIndX nn) s = .next t ∧
      t = { s with pc := t.pc, bus := t.bus } ∧
      ∀ ptr : Word, ptr.toNat = (nn.toNat + s.x.toNat) % 65536 →
        s.WordStored ptr → t.pc = s.wordAt ptr)

/-- R233, R234, R120: JSR and the eight JSB: the address of the next instruction is pushed, high
byte first; JSR goes to its operand, JSB through its vector at 0xFFE0 + 2n; no flag changes. -/
def Obligations.CallResults : Prop :=
  ∀ s : State,
    (∀ nn : Word, IsEncoded 0x20 (.jsr nn) 3 ∧ ∃ t : State, exec (.jsr nn) s = .next t ∧
      t = { s with sp := s.sp - 2, mem := t.mem, pc := nn, bus := t.bus } ∧
      StoresBytes s t
        [(stackAddr s.sp, hiByte (s.pc + 3)), (stackAddr (s.sp - 1), loByte (s.pc + 3))]) ∧
    (∀ b : Fin 8, (encode (jsbForm b)).length = 1 ∧
      ∃ t : State, exec (jsbForm b) s = .next t ∧
      t = { s with sp := s.sp - 2, mem := t.mem, pc := t.pc, bus := t.bus } ∧
      (∀ vector : Word, vector.toNat = 0xFFE0 + 2 * b.val →
        s.WordStored vector → t.pc = s.wordAt vector) ∧
      StoresBytes s t
        [(stackAddr s.sp, hiByte (s.pc + 1)), (stackAddr (s.sp - 1), loByte (s.pc + 1))])

/-- R235, R236, R257: RTS pulls PC, low byte first; RTI pulls P (six flags, B stays) and then PC;
the address is used as it is and the bytes stay in memory.  The wrap of S is the spec's decision D7
(log entry 8); the bit numbers of P are D2, PRESUMED, and that B stays is D4 (log entry 7). -/
def Obligations.ReturnResults : Prop :=
  ∀ s : State,
    (IsEncoded 0x60 .rts 1 ∧ ∃ t : State, exec .rts s = .next t ∧
      t = { s with sp := s.sp + 2, pc := t.pc, bus := t.bus } ∧
      (s.Stored (stackAddr (s.sp + 1)) → loByte t.pc = s.byteAt (stackAddr (s.sp + 1))) ∧
      (s.Stored (stackAddr (s.sp + 2)) → hiByte t.pc = s.byteAt (stackAddr (s.sp + 2)))) ∧
    (IsEncoded 0x40 .rti 1 ∧ ∃ (t : State) (byte : Byte), exec .rti s = .next t ∧
      t = { s with
        sp := s.sp + 3
        p := { n := bitOf byte 7, v := bitOf byte 6, b := s.p.b, d := bitOf byte 3
               i := bitOf byte 2, z := bitOf byte 1, c := bitOf byte 0 }
        pc := t.pc, bus := t.bus } ∧
      (s.Stored (stackAddr (s.sp + 1)) → byte = s.byteAt (stackAddr (s.sp + 1))) ∧
      (s.Stored (stackAddr (s.sp + 2)) → loByte t.pc = s.byteAt (stackAddr (s.sp + 2))) ∧
      (s.Stored (stackAddr (s.sp + 3)) → hiByte t.pc = s.byteAt (stackAddr (s.sp + 3))))

/-- R237, R301: BRK: the return address and P as it was are pushed, B and I_flag are set, and PC
is what the vector holds when the pushes are done.  The vector and the offset of the return
address are parameters (the spec's decisions D9 and D10, log entry 10); that the stored B is
pushed is D4. -/
def Obligations.BreakResult : Prop :=
  ∀ s : State, IsEncoded 0x00 .brk 1 ∧ ∃ t : State, exec .brk s = .next t ∧
    t = { s with
      sp := s.sp - 3, p := { s.p with b := true, i := true }
      mem := t.mem, pc := t.pc, bus := t.bus } ∧
    StoresBytes s t
      (exceptionFrame s.sp (s.pc + s.params.brkReturnOffset) (pByte s.params.pBit5 s.p)) ∧
    (s.WordStored s.params.brkVector → t.pc = t.wordAt s.params.brkVector)

/-! ### Stack -/

/-- R250 to R256, R258: the push instructions: each byte at 0x0100 + S, S counted down once a
byte, high bytes first, A before X before Y; no register but S and PC changes, and no flag.  The
wrap of S is the spec's decision D7 (log entry 8), the byte that stands for P is D2 to D4 (log
entry 7). -/
def Obligations.PushResults : Prop :=
  ∀ (s : State) (op : Byte) (i : Instr) (bytes : List Byte),
    ((op = 0x48 ∧ i = .pha ∧ bytes = [s.a]) ∨
      (op = 0x08 ∧ i = .php ∧ bytes = [pByte s.params.pBit5 s.p]) ∨
      (op = 0xDA ∧ i = .phx ∧ bytes = [s.x]) ∨ (op = 0x5A ∧ i = .phy ∧ bytes = [s.y]) ∨
      (op = 0x23 ∧ i = .phw ∧ bytes = [hiByte s.w, loByte s.w]) ∨
      (op = 0xCB ∧ i = .phi ∧ bytes = [hiByte s.ireg, loByte s.ireg]) ∨
      (op = 0x22 ∧ i = .psh ∧ bytes = [s.a, s.x, s.y])) →
    IsEncoded op i 1 ∧
    ∃ t : State, exec i s = .next t ∧
      t = { s with
        sp := s.sp - BitVec.ofNat 8 bytes.length, mem := t.mem, pc := s.pc + 1, bus := t.bus } ∧
      StoresBytes s t
        ([stackAddr s.sp, stackAddr (s.sp - 1), stackAddr (s.sp - 2)].zip bytes)

/-- R257, R259 to R265: the pull instructions other than PIA: `v k` is the `k`-th byte pulled, the
one that memory holds at 0x0100 + ((S + k) mod 256); PLA, PLX, PLY write N and Z, PLP six flags,
the others none.  The wrap of S is the spec's decision D7 (log entry 8).  The bit numbers that PLP
takes its flags from are D2, PRESUMED, and that it keeps B is D4 (log entry 7). -/
def Obligations.PullResults : Prop :=
  ∀ s : State, ∃ v : Instr → Byte → Byte,
    (∀ (i : Instr) (k : Byte), s.Stored (stackAddr (s.sp + k)) →
      v i k = s.byteAt (stackAddr (s.sp + k))) ∧
    (IsEncoded 0x68 .pla 1 ∧ ∃ t : State, exec .pla s = .next t ∧
      t = { s with
        a := v .pla 1, p := { s.p with n := (v .pla 1).msb, z := decide (v .pla 1 = 0) }
        sp := s.sp + 1, pc := s.pc + 1, bus := t.bus }) ∧
    (IsEncoded 0xFA .plx 1 ∧ ∃ t : State, exec .plx s = .next t ∧
      t = { s with
        x := v .plx 1, p := { s.p with n := (v .plx 1).msb, z := decide (v .plx 1 = 0) }
        sp := s.sp + 1, pc := s.pc + 1, bus := t.bus }) ∧
    (IsEncoded 0x7A .ply 1 ∧ ∃ t : State, exec .ply s = .next t ∧
      t = { s with
        y := v .ply 1, p := { s.p with n := (v .ply 1).msb, z := decide (v .ply 1 = 0) }
        sp := s.sp + 1, pc := s.pc + 1, bus := t.bus }) ∧
    (IsEncoded 0x28 .plp 1 ∧ ∃ t : State, exec .plp s = .next t ∧
      t = { s with
        p := { n := bitOf (v .plp 1) 7, v := bitOf (v .plp 1) 6, b := s.p.b
               d := bitOf (v .plp 1) 3, i := bitOf (v .plp 1) 2, z := bitOf (v .plp 1) 1
               c := bitOf (v .plp 1) 0 }
        sp := s.sp + 1, pc := s.pc + 1, bus := t.bus }) ∧
    (IsEncoded 0x33 .plw 1 ∧ ∃ t : State, exec .plw s = .next t ∧
      t = { s with
        w := wordOf (v .plw 2) (v .plw 1), sp := s.sp + 2, pc := s.pc + 1, bus := t.bus }) ∧
    (IsEncoded 0xDB .pli 1 ∧ ∃ t : State, exec .pli s = .next t ∧
      t = { s with
        ireg := wordOf (v .pli 2) (v .pli 1), sp := s.sp + 2, pc := s.pc + 1, bus := t.bus }) ∧
    (IsEncoded 0x32 .pul 1 ∧ ∃ t : State, exec .pul s = .next t ∧
      t = { s with
        y := v .pul 1, x := v .pul 2, a := v .pul 3
        sp := s.sp + 3, pc := s.pc + 1, bus := t.bus })

/-- R266: PIA: I is pulled, the byte at I goes to A, and to X where the parameter `PIA_LOADS_X`
says so (conflict C13, log entry 10), and I is counted up; N and Z describe A. -/
def Obligations.PullIAResult : Prop :=
  ∀ s : State, IsEncoded 0xFB .pia 1 ∧
    ∃ (t : State) (ptr : Word) (byte : Byte), exec .pia s = .next t ∧
      (s.Stored (stackAddr (s.sp + 1)) → loByte ptr = s.byteAt (stackAddr (s.sp + 1))) ∧
      (s.Stored (stackAddr (s.sp + 2)) → hiByte ptr = s.byteAt (stackAddr (s.sp + 2))) ∧
      (s.Stored ptr → byte = s.byteAt ptr) ∧
      t = { s with
        a := byte, x := if s.params.piaLoadsX = true then byte else s.x
        ireg := ptr + 1, sp := s.sp + 2
        p := { s.p with n := byte.msb, z := decide (byte = 0) }
        pc := s.pc + 1, bus := t.bus }

/-- R233, R235, R250, R257: what JSR pushed, RTS pulls: after the call the return goes to the
instruction after the JSR with S, every register and every flag as before, where the two stack
bytes are read/write memory. -/
def Obligations.CallThenReturn : Prop :=
  ∀ (s t : State) (nn : Word), s.kindAt (stackAddr s.sp) = .ram →
    s.kindAt (stackAddr (s.sp - 1)) = .ram → exec (.jsr nn) s = .next t →
    ∃ u : State, exec .rts t = .next u ∧
      u = { s with mem := u.mem, pc := s.pc + 3, bus := u.bus }

/-- R258, R265, R255, R263, R256, R264: the pulls undo the pushes: PUL after PSH, PLW after PHW
and PLI after PHI restore the registers and S, whatever the registers held in between, where the
stack bytes are read/write memory. -/
def Obligations.PushThenPull : Prop :=
  ∀ (s t : State) (push pull : Instr),
    s.kindAt (stackAddr s.sp) = .ram → s.kindAt (stackAddr (s.sp - 1)) = .ram →
    s.kindAt (stackAddr (s.sp - 2)) = .ram →
    ((push = .psh ∧ pull = .pul) ∨ (push = .phw ∧ pull = .plw) ∨ (push = .phi ∧ pull = .pli)) →
    exec push s = .next t →
    ∀ (a x y : Byte) (w ireg : Word), ∃ u : State,
      exec pull { t with a := a, x := x, y := y, w := w, ireg := ireg } = .next u ∧
      u.sp = s.sp ∧ u.p = s.p ∧
      (push = .psh → u.a = s.a ∧ u.x = s.x ∧ u.y = s.y ∧ u.w = w ∧ u.ireg = ireg) ∧
      (push = .phw → u.w = s.w ∧ u.a = a ∧ u.x = x ∧ u.y = y ∧ u.ireg = ireg) ∧
      (push = .phi → u.ireg = s.ireg ∧ u.a = a ∧ u.x = x ∧ u.y = y ∧ u.w = w)

/-! ### Threaded code -/

/-- R270 to R276: the instructions of the I register.  None writes a flag.  NXT and LII read their
two bytes with the old I; JPI leaves the address of the next instruction in I and goes where its
pointer points (conflict C14).  16-bit sums wrap (the spec's decision D8, log entry 8). -/
def Obligations.ThreadedCodeResults : Prop :=
  ∀ s : State,
    (IsEncoded 0x8B .nxt 1 ∧ ∃ t : State, exec .nxt s = .next t ∧
      t = { s with pc := t.pc, ireg := s.ireg + 2, bus := t.bus } ∧
      (s.WordStored s.ireg → t.pc = s.wordAt s.ireg)) ∧
    (IsEncoded 0x9B .lii 1 ∧ ∃ t : State, exec .lii s = .next t ∧
      t = { s with pc := s.pc + 1, ireg := t.ireg, bus := t.bus } ∧
      (s.WordStored s.ireg → t.ireg = s.wordAt s.ireg)) ∧
    (IsEncoded 0xEB .lai 1 ∧ ∃ t : State, exec .lai s = .next t ∧
      t = { s with pc := s.pc + 1, a := t.a, bus := t.bus } ∧
      (s.Stored s.ireg → t.a = s.byteAt s.ireg)) ∧
    (IsEncoded 0xAB .lan 1 ∧ ∃ t : State, exec .lan s = .next t ∧
      t = { s with pc := s.pc + 1, a := t.a, ireg := s.ireg + 1, bus := t.bus } ∧
      (s.Stored s.ireg → t.a = s.byteAt s.ireg)) ∧
    (IsEncoded 0xBB .ini 1 ∧ ∃ t : State, exec .ini s = .next t ∧
      t = { s with pc := s.pc + 1, ireg := s.ireg + 1, bus := t.bus }) ∧
    (∀ nn : Word, IsEncoded 0x0C (.jpi nn) 3 ∧ ∃ t : State, exec (.jpi nn) s = .next t ∧
      t = { s with pc := t.pc, ireg := s.pc + 3, bus := t.bus } ∧
      (s.WordStored nn → t.pc = s.wordAt nn)) ∧
    (IsEncoded 0x03 .tip 1 ∧ ∃ t : State, exec .tip s = .next t ∧
      t = { s with pc := s.ireg, bus := t.bus })

/-! ### Flags -/

/-- R280 to R287: each flag instruction writes its one flag, NOP nothing; PC passes the
instruction. -/
def Obligations.FlagInstructionResults : Prop :=
  ∀ (s : State) (op : Byte) (i : Instr) (p : Status),
    ((op = 0x18 ∧ i = .clc ∧ p = { s.p with c := false }) ∨
      (op = 0xD8 ∧ i = .cld ∧ p = { s.p with d := false }) ∨
      (op = 0x58 ∧ i = .cli ∧ p = { s.p with i := false }) ∨
      (op = 0xB8 ∧ i = .clv ∧ p = { s.p with v := false }) ∨
      (op = 0x38 ∧ i = .sec ∧ p = { s.p with c := true }) ∨
      (op = 0xF8 ∧ i = .sed ∧ p = { s.p with d := true }) ∨
      (op = 0x78 ∧ i = .sei ∧ p = { s.p with i := true }) ∨
      (op = 0xEA ∧ i = .nop ∧ p = s.p)) →
    IsEncoded op i 1 ∧
    ∃ t : State, exec i s = .next t ∧ t = { s with p := p, pc := s.pc + 1, bus := t.bus }

/-! ### Interrupts and reset -/

/-- R14, R250, R257: the byte that stands for P: N V bit5 B D I Z C from bit 7 down; pulling it
back gives six flags and keeps the B there is.  The bit numbers are the spec's decision D2, bit 5
D3 (log entry 7). -/
def Obligations.StatusByteLayout : Prop :=
  ∀ (bit5 : Bool) (p q : Status),
    bitOf (pByte bit5 p) 7 = p.n ∧ bitOf (pByte bit5 p) 6 = p.v ∧ bitOf (pByte bit5 p) 5 = bit5 ∧
    bitOf (pByte bit5 p) 4 = p.b ∧ bitOf (pByte bit5 p) 3 = p.d ∧ bitOf (pByte bit5 p) 2 = p.i ∧
    bitOf (pByte bit5 p) 1 = p.z ∧ bitOf (pByte bit5 p) 0 = p.c ∧
    restoreP (pByte bit5 p) q = { p with b := q.b }

/-- R303 to R308: a pending NMI is taken at the boundary, whatever I_flag and the maskable
requests are: PC and P as they stand are pushed, I_flag is set, B, D and the others stay, the
request is gone, and PC is what the vector at FFFC holds.  That NMI is not masked and comes first
is the spec's decision D13, the flags D11 (log entry 9). -/
def Obligations.NonMaskableInterrupt : Prop :=
  ∀ s : State, s.resetPending = false → s.nmiPending = true →
    ∃ t : State, step s = .next t ∧
      t = { s with
        sp := s.sp - 3, p := { s.p with i := true }, mem := t.mem, pc := t.pc
        nmiPending := false, bus := t.bus } ∧
      StoresBytes s t (exceptionFrame s.sp s.pc (pByte s.params.pBit5 s.p)) ∧
      (s.WordStored 0xFFFC → t.pc = s.wordAt 0xFFFC)

/-- R302 to R309: with I_flag = 0 and neither reset nor NMI requested, the first pending source of
the list is taken: the same sequence through its own vector; its request is gone, the others
stay.  List order is the spec's decision D13 (log entry 9). -/
def Obligations.MaskableInterruptInListOrder : Prop :=
  ∀ (s : State) (before after : List IrqLine) (line : IrqLine),
    s.resetPending = false → s.nmiPending = false → s.p.i = false →
    s.irqs = before ++ line :: after → (∀ l ∈ before, l.pending = false) → line.pending = true →
    ∃ t : State, step s = .next t ∧
      t = { s with
        sp := s.sp - 3, p := { s.p with i := true }, mem := t.mem, pc := t.pc
        irqs := before ++ { line with pending := false } :: after, bus := t.bus } ∧
      StoresBytes s t (exceptionFrame s.sp s.pc (pByte s.params.pBit5 s.p)) ∧
      (s.WordStored line.vector → t.pc = t.wordAt line.vector)

/-- R302, R303: a request that is masked, or not the one taken, stays pending: unless a reset is
taken, a step that begins with I_flag = 1 or takes an NMI leaves every maskable request as it is,
and no step raises a request. -/
def Obligations.RequestsStayUntilTaken : Prop :=
  ∀ s t : State, step s = .next t → s.resetPending = false →
    ((s.p.i = true ∨ s.nmiPending = true) → t.irqs = s.irqs) ∧
    t.nmiPending = false ∧ t.resetPending = false ∧
    (∀ k : Nat, (s.irqs[k]?).map IrqLine.pending = some false →
      (t.irqs[k]?).map IrqLine.pending = some false)

/-- R305, R307, R311, R312: from a state with an NMI pending and its three stack bytes in
read/write memory, the interrupt sequence and then RTI (in a handler that left S and the stack as
it found them) give back S, every register, every flag, PC and every other request; memory holds
the three pushed bytes, and every other byte of it is as before.  That NMI is taken first and
unmasked, and that the sequence writes no flag but I_flag, is the spec's decisions D13 and D11
(log entry 9), that B is stored and kept D4 (log entry 7), that taking a request clears it D25
(log entry 17). -/
def Obligations.InterruptThenReturn : Prop :=
  ∀ s t : State, s.resetPending = false → s.nmiPending = true →
    s.kindAt (stackAddr s.sp) = .ram → s.kindAt (stackAddr (s.sp - 1)) = .ram →
    s.kindAt (stackAddr (s.sp - 2)) = .ram → step s = .next t →
    ∃ u : State, exec .rti t = .next u ∧
      u = { s with mem := u.mem, nmiPending := false, bus := u.bus } ∧
      StoresBytes s u (exceptionFrame s.sp s.pc (pByte s.params.pBit5 s.p))

/-- R330, R331: a reset is taken before anything else: PC from the vector at FFFE, D = 0, I_flag =
`RESET_I`, no request pending, nothing written to memory; the other registers are open.  `RESET_I`,
the clearing of requests and the first place are the spec's decisions D19 and D13 (log entry 15).
That memory, which the sequence does not write, still holds what it held before the reset is the
model's choice (log entry 25). -/
def Obligations.StartSequenceResult : Prop :=
  ∀ s : State, s.resetPending = true →
    ∃ t : State, step s = .next t ∧
      t = { s with
        a := t.a, x := t.x, y := t.y, sp := t.sp, w := t.w, ireg := t.ireg
        p := { t.p with d := false, i := s.params.resetI }
        pc := t.pc, resetPending := false, nmiPending := false
        irqs := s.irqs.map fun l => { l with pending := false }
        bus := t.bus } ∧
      (s.WordStored 0xFFFE → t.pc = s.wordAt 0xFFFE)

/-! ### Rules over the whole machine -/

/-- R29: every instruction writes only the flags that the table marks, and writes the fixed value
where the table has one. -/
def Obligations.FlagsAsTabled : Prop :=
  ∀ (i : Instr) (s t : State), exec i s = .next t → (flagEffects i).Allow s.p t.p

/-- R10: every instruction writes only the registers A, X, Y, S, W and I that the table says it
writes; the parameters and the pending requests belong to no instruction. -/
def Obligations.RegistersAsTabled : Prop :=
  ∀ (i : Instr) (s t : State), exec i s = .next t →
    ((registersWritten i).a = false → t.a = s.a) ∧
    ((registersWritten i).x = false → t.x = s.x) ∧
    ((registersWritten i).y = false → t.y = s.y) ∧
    ((registersWritten i).s = false → t.sp = s.sp) ∧
    ((registersWritten i).w = false → t.w = s.w) ∧
    ((registersWritten i).i = false → t.ireg = s.ireg) ∧
    t.params = s.params ∧ t.irqs = s.irqs ∧
    t.nmiPending = s.nmiPending ∧ t.resetPending = s.resetPending

/-- R119, R50: every instruction leaves every byte of memory as it was except at the addresses it
stores to, which its meaning computes from the state it starts in. -/
def Obligations.MemoryOutsideStoresUnchanged : Prop :=
  ∀ (i : Instr) (s t : State), exec i s = .next t →
    ∀ a : Word, a ∉ storesTo s i → t.byteAt a = s.byteAt a

/-- R335, R336: every instruction takes as many cycles as the tables give, its fetch included.
The 2 cycles of TYA, which the list of R335 leaves out, are those of
spec/41_load_store_transfer.md section 3 (log entry 19).  A cycle is one bus access but for the
added cycles of decimal mode and of a taken BBR, BBS, BAR or BAS, which make none in the model
(log entry 11). -/
def Obligations.CyclesAsTabled : Prop :=
  ∀ (i : Instr) (s t : State), exec i s = .next t →
    t.bus.cycles + earlyBytes i = s.bus.cycles + baseCycles i + extraCycles s i

/-- R2, R17, R302: whatever a step does, it leaves the parameters and the list of sources (names,
vectors, order), and unless it is a reset it never clears B. -/
def Obligations.PlatformAndBreakFlagKept : Prop :=
  ∀ s t : State, step s = .next t →
    t.params = s.params ∧
    t.irqs.map (fun l => (l.name, l.vector)) = s.irqs.map (fun l => (l.name, l.vector)) ∧
    (s.resetPending = false → s.p.b = true → t.p.b = true)
end

