-- ==== Sys2Proof/Laws/Memory.lean ====
section
/-! SUPPORT. The laws of memory: a read after a write, and the canonical form kept. -/

namespace Sys2Proof.Machine

theorem Memory.byteAt_erase (m : Memory) (a b : Nat) :
    (m.erase a).byteAt b = if b = a then Memory.unlisted else m.byteAt b := by
  induction m with
  | nil => simp [Memory.erase, Memory.byteAt]
  | cons c rest ih =>
    obtain ⟨k, w⟩ := c
    by_cases hk : k = a
    · subst hk
      by_cases hb : b = k
      · subst hb
        simp [Memory.erase, ih]
      · simp [Memory.erase, Memory.byteAt, ih, hb, Ne.symm hb]
    · by_cases hb : b = a
      · subst hb
        simp [Memory.erase, Memory.byteAt, ih, hk]
      · simp [Memory.erase, Memory.byteAt, ih, hk, hb]

theorem Memory.byteAt_insert (m : Memory) (a b : Nat) (v : Byte) :
    (m.insert a v).byteAt b = if b = a then v else m.byteAt b := by
  induction m with
  | nil => simp [Memory.insert, Memory.byteAt, eq_comm]
  | cons c rest ih =>
    obtain ⟨k, w⟩ := c
    unfold Memory.insert
    split
    · simp [Memory.byteAt, eq_comm]
    · split
      · rename_i _ hk
        subst hk
        by_cases hb : b = k
        · simp [Memory.byteAt, hb]
        · simp [Memory.byteAt, hb, Ne.symm hb]
      · rename_i _ hk
        by_cases hb : b = a
        · subst hb
          simp [Memory.byteAt, ih, hk]
        · simp [Memory.byteAt, ih, hb]

/-- A read after a write: the value written there, every other byte as before. -/
theorem Memory.byteAt_set (m : Memory) (a b : Nat) (v : Byte) :
    (m.set a v).byteAt b = if b = a then v else m.byteAt b := by
  unfold Memory.set
  split
  · rename_i hv
    rw [Memory.byteAt_erase, hv]
  · exact Memory.byteAt_insert m a b v

theorem Memory.byteAt_set_same (m : Memory) (a : Nat) (v : Byte) : (m.set a v).byteAt a = v := by
  simp [Memory.byteAt_set]

theorem Memory.byteAt_set_other (m : Memory) {a b : Nat} (v : Byte) (h : b ≠ a) :
    (m.set a v).byteAt b = m.byteAt b := by
  simp [Memory.byteAt_set, h]

theorem Memory.wfFrom_cons (lo k : Nat) (v : Byte) (m : Memory) :
    Memory.wfFrom lo ((k, v) :: m) = true ↔
      lo ≤ k ∧ k < Memory.size ∧ v ≠ Memory.unlisted ∧ Memory.wfFrom (k + 1) m = true := by
  simp [Memory.wfFrom, and_assoc]

theorem Memory.wfFrom_mono {lo lo' : Nat} (h : lo' ≤ lo) {m : Memory}
    (hm : Memory.wfFrom lo m = true) : Memory.wfFrom lo' m = true := by
  cases m with
  | nil => rfl
  | cons c rest =>
    obtain ⟨k, v⟩ := c
    rw [Memory.wfFrom_cons] at *
    exact ⟨h.trans hm.1, hm.2⟩

theorem Memory.wfFrom_erase {m : Memory} (a : Nat) :
    ∀ {lo : Nat}, Memory.wfFrom lo m = true → Memory.wfFrom lo (m.erase a) = true := by
  induction m with
  | nil => intro lo h; exact h
  | cons c rest ih =>
    obtain ⟨k, w⟩ := c
    intro lo h
    rw [Memory.wfFrom_cons] at h
    unfold Memory.erase
    split
    · exact ih (Memory.wfFrom_mono (by omega) h.2.2.2)
    · rw [Memory.wfFrom_cons]
      exact ⟨h.1, h.2.1, h.2.2.1, ih h.2.2.2⟩

theorem Memory.wfFrom_insert {m : Memory} {a : Nat} {v : Byte} (ha : a < Memory.size)
    (hv : v ≠ Memory.unlisted) :
    ∀ {lo : Nat}, lo ≤ a → Memory.wfFrom lo m = true → Memory.wfFrom lo (m.insert a v) = true := by
  induction m with
  | nil =>
    intro lo hlo _
    simp [Memory.insert, Memory.wfFrom, hlo, ha, hv]
  | cons c rest ih =>
    obtain ⟨k, w⟩ := c
    intro lo hlo h
    have h' := h
    rw [Memory.wfFrom_cons] at h'
    unfold Memory.insert
    split
    · rw [Memory.wfFrom_cons, Memory.wfFrom_cons]
      exact ⟨hlo, ha, hv, by omega, h'.2⟩
    · split
      · rename_i _ hk
        subst hk
        rw [Memory.wfFrom_cons]
        exact ⟨hlo, ha, hv, h'.2.2.2⟩
      · rename_i h1 h2
        rw [Memory.wfFrom_cons]
        exact ⟨h'.1, h'.2.1, h'.2.2.1, ih (by omega) h'.2.2.2⟩

/-- A write keeps the canonical form. -/
theorem Memory.wf_set {m : Memory} {a : Nat} (v : Byte) (ha : a < Memory.size)
    (hm : m.wf = true) : (m.set a v).wf = true := by
  unfold Memory.set
  split
  · exact Memory.wfFrom_erase a hm
  · rename_i hv
    exact Memory.wfFrom_insert ha hv (Nat.zero_le a) hm

/-- A write at an address of the bus keeps the canonical form. -/
theorem Memory.wf_set_word {m : Memory} (a : Word) (v : Byte) (hm : m.wf = true) :
    (m.set a.toNat v).wf = true :=
  Memory.wf_set v a.isLt hm


/-- What a write on the bus leaves in memory. -/
theorem memAfterWrite_byteAt (k : RegionKind) (a : Word) (v : Byte) (m : Memory) (b : Nat) :
    Memory.byteAt (memAfterWrite k a v m) b =
      if k = .ram ∧ b = a.toNat then v else Memory.byteAt m b := by
  cases k <;> simp [memAfterWrite, Memory.byteAt_set]

/-- A write on the bus keeps the canonical form. -/
theorem memAfterWrite_wf (k : RegionKind) (a : Word) (v : Byte) {m : Memory}
    (hm : m.wf = true) : Memory.wf (memAfterWrite k a v m) = true := by
  cases k
  · exact Memory.wf_set_word a v hm
  all_goals exact hm

end Sys2Proof.Machine
end

