-- ==== Sys2Proof/Laws/State.lean ====
section
/-! SUPPORT. One lemma for each field under each update of the state, all true by `rfl`, so that no
proof unfolds a record update. -/

namespace Sys2Proof.Machine

/-! ### `setA` -/

@[simp] theorem State.setA_a (s : State) (v : Byte) : (s.setA v).a = v := rfl
@[simp] theorem State.setA_x (s : State) (v : Byte) : (s.setA v).x = s.x := rfl
@[simp] theorem State.setA_y (s : State) (v : Byte) : (s.setA v).y = s.y := rfl
@[simp] theorem State.setA_sp (s : State) (v : Byte) : (s.setA v).sp = s.sp := rfl
@[simp] theorem State.setA_p (s : State) (v : Byte) : (s.setA v).p = s.p := rfl
@[simp] theorem State.setA_pc (s : State) (v : Byte) : (s.setA v).pc = s.pc := rfl
@[simp] theorem State.setA_w (s : State) (v : Byte) : (s.setA v).w = s.w := rfl
@[simp] theorem State.setA_ireg (s : State) (v : Byte) : (s.setA v).ireg = s.ireg := rfl
@[simp] theorem State.setA_mem (s : State) (v : Byte) : (s.setA v).mem = s.mem := rfl
@[simp] theorem State.setA_resetPending (s : State) (v : Byte) :
    (s.setA v).resetPending = s.resetPending := rfl
@[simp] theorem State.setA_nmiPending (s : State) (v : Byte) :
    (s.setA v).nmiPending = s.nmiPending := rfl
@[simp] theorem State.setA_irqs (s : State) (v : Byte) : (s.setA v).irqs = s.irqs := rfl
@[simp] theorem State.setA_params (s : State) (v : Byte) : (s.setA v).params = s.params := rfl
@[simp] theorem State.setA_bus (s : State) (v : Byte) : (s.setA v).bus = s.bus := rfl

/-! ### `setX` -/

@[simp] theorem State.setX_a (s : State) (v : Byte) : (s.setX v).a = s.a := rfl
@[simp] theorem State.setX_x (s : State) (v : Byte) : (s.setX v).x = v := rfl
@[simp] theorem State.setX_y (s : State) (v : Byte) : (s.setX v).y = s.y := rfl
@[simp] theorem State.setX_sp (s : State) (v : Byte) : (s.setX v).sp = s.sp := rfl
@[simp] theorem State.setX_p (s : State) (v : Byte) : (s.setX v).p = s.p := rfl
@[simp] theorem State.setX_pc (s : State) (v : Byte) : (s.setX v).pc = s.pc := rfl
@[simp] theorem State.setX_w (s : State) (v : Byte) : (s.setX v).w = s.w := rfl
@[simp] theorem State.setX_ireg (s : State) (v : Byte) : (s.setX v).ireg = s.ireg := rfl
@[simp] theorem State.setX_mem (s : State) (v : Byte) : (s.setX v).mem = s.mem := rfl
@[simp] theorem State.setX_resetPending (s : State) (v : Byte) :
    (s.setX v).resetPending = s.resetPending := rfl
@[simp] theorem State.setX_nmiPending (s : State) (v : Byte) :
    (s.setX v).nmiPending = s.nmiPending := rfl
@[simp] theorem State.setX_irqs (s : State) (v : Byte) : (s.setX v).irqs = s.irqs := rfl
@[simp] theorem State.setX_params (s : State) (v : Byte) : (s.setX v).params = s.params := rfl
@[simp] theorem State.setX_bus (s : State) (v : Byte) : (s.setX v).bus = s.bus := rfl

/-! ### `setY` -/

@[simp] theorem State.setY_a (s : State) (v : Byte) : (s.setY v).a = s.a := rfl
@[simp] theorem State.setY_x (s : State) (v : Byte) : (s.setY v).x = s.x := rfl
@[simp] theorem State.setY_y (s : State) (v : Byte) : (s.setY v).y = v := rfl
@[simp] theorem State.setY_sp (s : State) (v : Byte) : (s.setY v).sp = s.sp := rfl
@[simp] theorem State.setY_p (s : State) (v : Byte) : (s.setY v).p = s.p := rfl
@[simp] theorem State.setY_pc (s : State) (v : Byte) : (s.setY v).pc = s.pc := rfl
@[simp] theorem State.setY_w (s : State) (v : Byte) : (s.setY v).w = s.w := rfl
@[simp] theorem State.setY_ireg (s : State) (v : Byte) : (s.setY v).ireg = s.ireg := rfl
@[simp] theorem State.setY_mem (s : State) (v : Byte) : (s.setY v).mem = s.mem := rfl
@[simp] theorem State.setY_resetPending (s : State) (v : Byte) :
    (s.setY v).resetPending = s.resetPending := rfl
@[simp] theorem State.setY_nmiPending (s : State) (v : Byte) :
    (s.setY v).nmiPending = s.nmiPending := rfl
@[simp] theorem State.setY_irqs (s : State) (v : Byte) : (s.setY v).irqs = s.irqs := rfl
@[simp] theorem State.setY_params (s : State) (v : Byte) : (s.setY v).params = s.params := rfl
@[simp] theorem State.setY_bus (s : State) (v : Byte) : (s.setY v).bus = s.bus := rfl

/-! ### `setSp` -/

@[simp] theorem State.setSp_a (s : State) (v : Byte) : (s.setSp v).a = s.a := rfl
@[simp] theorem State.setSp_x (s : State) (v : Byte) : (s.setSp v).x = s.x := rfl
@[simp] theorem State.setSp_y (s : State) (v : Byte) : (s.setSp v).y = s.y := rfl
@[simp] theorem State.setSp_sp (s : State) (v : Byte) : (s.setSp v).sp = v := rfl
@[simp] theorem State.setSp_p (s : State) (v : Byte) : (s.setSp v).p = s.p := rfl
@[simp] theorem State.setSp_pc (s : State) (v : Byte) : (s.setSp v).pc = s.pc := rfl
@[simp] theorem State.setSp_w (s : State) (v : Byte) : (s.setSp v).w = s.w := rfl
@[simp] theorem State.setSp_ireg (s : State) (v : Byte) : (s.setSp v).ireg = s.ireg := rfl
@[simp] theorem State.setSp_mem (s : State) (v : Byte) : (s.setSp v).mem = s.mem := rfl
@[simp] theorem State.setSp_resetPending (s : State) (v : Byte) :
    (s.setSp v).resetPending = s.resetPending := rfl
@[simp] theorem State.setSp_nmiPending (s : State) (v : Byte) :
    (s.setSp v).nmiPending = s.nmiPending := rfl
@[simp] theorem State.setSp_irqs (s : State) (v : Byte) : (s.setSp v).irqs = s.irqs := rfl
@[simp] theorem State.setSp_params (s : State) (v : Byte) : (s.setSp v).params = s.params := rfl
@[simp] theorem State.setSp_bus (s : State) (v : Byte) : (s.setSp v).bus = s.bus := rfl

/-! ### `setW` -/

@[simp] theorem State.setW_a (s : State) (v : Word) : (s.setW v).a = s.a := rfl
@[simp] theorem State.setW_x (s : State) (v : Word) : (s.setW v).x = s.x := rfl
@[simp] theorem State.setW_y (s : State) (v : Word) : (s.setW v).y = s.y := rfl
@[simp] theorem State.setW_sp (s : State) (v : Word) : (s.setW v).sp = s.sp := rfl
@[simp] theorem State.setW_p (s : State) (v : Word) : (s.setW v).p = s.p := rfl
@[simp] theorem State.setW_pc (s : State) (v : Word) : (s.setW v).pc = s.pc := rfl
@[simp] theorem State.setW_w (s : State) (v : Word) : (s.setW v).w = v := rfl
@[simp] theorem State.setW_ireg (s : State) (v : Word) : (s.setW v).ireg = s.ireg := rfl
@[simp] theorem State.setW_mem (s : State) (v : Word) : (s.setW v).mem = s.mem := rfl
@[simp] theorem State.setW_resetPending (s : State) (v : Word) :
    (s.setW v).resetPending = s.resetPending := rfl
@[simp] theorem State.setW_nmiPending (s : State) (v : Word) :
    (s.setW v).nmiPending = s.nmiPending := rfl
@[simp] theorem State.setW_irqs (s : State) (v : Word) : (s.setW v).irqs = s.irqs := rfl
@[simp] theorem State.setW_params (s : State) (v : Word) : (s.setW v).params = s.params := rfl
@[simp] theorem State.setW_bus (s : State) (v : Word) : (s.setW v).bus = s.bus := rfl

/-! ### `setIreg` -/

@[simp] theorem State.setIreg_a (s : State) (v : Word) : (s.setIreg v).a = s.a := rfl
@[simp] theorem State.setIreg_x (s : State) (v : Word) : (s.setIreg v).x = s.x := rfl
@[simp] theorem State.setIreg_y (s : State) (v : Word) : (s.setIreg v).y = s.y := rfl
@[simp] theorem State.setIreg_sp (s : State) (v : Word) : (s.setIreg v).sp = s.sp := rfl
@[simp] theorem State.setIreg_p (s : State) (v : Word) : (s.setIreg v).p = s.p := rfl
@[simp] theorem State.setIreg_pc (s : State) (v : Word) : (s.setIreg v).pc = s.pc := rfl
@[simp] theorem State.setIreg_w (s : State) (v : Word) : (s.setIreg v).w = s.w := rfl
@[simp] theorem State.setIreg_ireg (s : State) (v : Word) : (s.setIreg v).ireg = v := rfl
@[simp] theorem State.setIreg_mem (s : State) (v : Word) : (s.setIreg v).mem = s.mem := rfl
@[simp] theorem State.setIreg_resetPending (s : State) (v : Word) :
    (s.setIreg v).resetPending = s.resetPending := rfl
@[simp] theorem State.setIreg_nmiPending (s : State) (v : Word) :
    (s.setIreg v).nmiPending = s.nmiPending := rfl
@[simp] theorem State.setIreg_irqs (s : State) (v : Word) : (s.setIreg v).irqs = s.irqs := rfl
@[simp] theorem State.setIreg_params (s : State) (v : Word) : (s.setIreg v).params = s.params := rfl
@[simp] theorem State.setIreg_bus (s : State) (v : Word) : (s.setIreg v).bus = s.bus := rfl

/-! ### `setPc` -/

@[simp] theorem State.setPc_a (s : State) (v : Word) : (s.setPc v).a = s.a := rfl
@[simp] theorem State.setPc_x (s : State) (v : Word) : (s.setPc v).x = s.x := rfl
@[simp] theorem State.setPc_y (s : State) (v : Word) : (s.setPc v).y = s.y := rfl
@[simp] theorem State.setPc_sp (s : State) (v : Word) : (s.setPc v).sp = s.sp := rfl
@[simp] theorem State.setPc_p (s : State) (v : Word) : (s.setPc v).p = s.p := rfl
@[simp] theorem State.setPc_pc (s : State) (v : Word) : (s.setPc v).pc = v := rfl
@[simp] theorem State.setPc_w (s : State) (v : Word) : (s.setPc v).w = s.w := rfl
@[simp] theorem State.setPc_ireg (s : State) (v : Word) : (s.setPc v).ireg = s.ireg := rfl
@[simp] theorem State.setPc_mem (s : State) (v : Word) : (s.setPc v).mem = s.mem := rfl
@[simp] theorem State.setPc_resetPending (s : State) (v : Word) :
    (s.setPc v).resetPending = s.resetPending := rfl
@[simp] theorem State.setPc_nmiPending (s : State) (v : Word) :
    (s.setPc v).nmiPending = s.nmiPending := rfl
@[simp] theorem State.setPc_irqs (s : State) (v : Word) : (s.setPc v).irqs = s.irqs := rfl
@[simp] theorem State.setPc_params (s : State) (v : Word) : (s.setPc v).params = s.params := rfl
@[simp] theorem State.setPc_bus (s : State) (v : Word) : (s.setPc v).bus = s.bus := rfl

/-! ### `setP` -/

@[simp] theorem State.setP_a (s : State) (v : Status) : (s.setP v).a = s.a := rfl
@[simp] theorem State.setP_x (s : State) (v : Status) : (s.setP v).x = s.x := rfl
@[simp] theorem State.setP_y (s : State) (v : Status) : (s.setP v).y = s.y := rfl
@[simp] theorem State.setP_sp (s : State) (v : Status) : (s.setP v).sp = s.sp := rfl
@[simp] theorem State.setP_p (s : State) (v : Status) : (s.setP v).p = v := rfl
@[simp] theorem State.setP_pc (s : State) (v : Status) : (s.setP v).pc = s.pc := rfl
@[simp] theorem State.setP_w (s : State) (v : Status) : (s.setP v).w = s.w := rfl
@[simp] theorem State.setP_ireg (s : State) (v : Status) : (s.setP v).ireg = s.ireg := rfl
@[simp] theorem State.setP_mem (s : State) (v : Status) : (s.setP v).mem = s.mem := rfl
@[simp] theorem State.setP_resetPending (s : State) (v : Status) :
    (s.setP v).resetPending = s.resetPending := rfl
@[simp] theorem State.setP_nmiPending (s : State) (v : Status) :
    (s.setP v).nmiPending = s.nmiPending := rfl
@[simp] theorem State.setP_irqs (s : State) (v : Status) : (s.setP v).irqs = s.irqs := rfl
@[simp] theorem State.setP_params (s : State) (v : Status) : (s.setP v).params = s.params := rfl
@[simp] theorem State.setP_bus (s : State) (v : Status) : (s.setP v).bus = s.bus := rfl

/-! ### `advance` -/

@[simp] theorem State.advance_a (s : State) (n : Nat) : (s.advance n).a = s.a := rfl
@[simp] theorem State.advance_x (s : State) (n : Nat) : (s.advance n).x = s.x := rfl
@[simp] theorem State.advance_y (s : State) (n : Nat) : (s.advance n).y = s.y := rfl
@[simp] theorem State.advance_sp (s : State) (n : Nat) : (s.advance n).sp = s.sp := rfl
@[simp] theorem State.advance_p (s : State) (n : Nat) : (s.advance n).p = s.p := rfl
@[simp] theorem State.advance_pc (s : State) (n : Nat) :
    (s.advance n).pc = s.pc + BitVec.ofNat 16 n := rfl
@[simp] theorem State.advance_w (s : State) (n : Nat) : (s.advance n).w = s.w := rfl
@[simp] theorem State.advance_ireg (s : State) (n : Nat) : (s.advance n).ireg = s.ireg := rfl
@[simp] theorem State.advance_mem (s : State) (n : Nat) : (s.advance n).mem = s.mem := rfl
@[simp] theorem State.advance_resetPending (s : State) (n : Nat) :
    (s.advance n).resetPending = s.resetPending := rfl
@[simp] theorem State.advance_nmiPending (s : State) (n : Nat) :
    (s.advance n).nmiPending = s.nmiPending := rfl
@[simp] theorem State.advance_irqs (s : State) (n : Nat) : (s.advance n).irqs = s.irqs := rfl
@[simp] theorem State.advance_params (s : State) (n : Nat) : (s.advance n).params = s.params := rfl
@[simp] theorem State.advance_bus (s : State) (n : Nat) : (s.advance n).bus = s.bus := rfl

/-! ### `tick`: only the record of the bus changes -/

@[simp] theorem State.tick_a (s : State) (n : Nat) : (s.tick n).a = s.a := rfl
@[simp] theorem State.tick_x (s : State) (n : Nat) : (s.tick n).x = s.x := rfl
@[simp] theorem State.tick_y (s : State) (n : Nat) : (s.tick n).y = s.y := rfl
@[simp] theorem State.tick_sp (s : State) (n : Nat) : (s.tick n).sp = s.sp := rfl
@[simp] theorem State.tick_p (s : State) (n : Nat) : (s.tick n).p = s.p := rfl
@[simp] theorem State.tick_pc (s : State) (n : Nat) : (s.tick n).pc = s.pc := rfl
@[simp] theorem State.tick_w (s : State) (n : Nat) : (s.tick n).w = s.w := rfl
@[simp] theorem State.tick_ireg (s : State) (n : Nat) : (s.tick n).ireg = s.ireg := rfl
@[simp] theorem State.tick_mem (s : State) (n : Nat) : (s.tick n).mem = s.mem := rfl
@[simp] theorem State.tick_resetPending (s : State) (n : Nat) :
    (s.tick n).resetPending = s.resetPending := rfl
@[simp] theorem State.tick_nmiPending (s : State) (n : Nat) :
    (s.tick n).nmiPending = s.nmiPending := rfl
@[simp] theorem State.tick_irqs (s : State) (n : Nat) : (s.tick n).irqs = s.irqs := rfl
@[simp] theorem State.tick_params (s : State) (n : Nat) : (s.tick n).params = s.params := rfl

/-! ### `useDraws`: only the record of the bus changes -/

@[simp] theorem State.useDraws_a (s : State) (n : Nat) : (s.useDraws n).a = s.a := rfl
@[simp] theorem State.useDraws_x (s : State) (n : Nat) : (s.useDraws n).x = s.x := rfl
@[simp] theorem State.useDraws_y (s : State) (n : Nat) : (s.useDraws n).y = s.y := rfl
@[simp] theorem State.useDraws_sp (s : State) (n : Nat) : (s.useDraws n).sp = s.sp := rfl
@[simp] theorem State.useDraws_p (s : State) (n : Nat) : (s.useDraws n).p = s.p := rfl
@[simp] theorem State.useDraws_pc (s : State) (n : Nat) : (s.useDraws n).pc = s.pc := rfl
@[simp] theorem State.useDraws_w (s : State) (n : Nat) : (s.useDraws n).w = s.w := rfl
@[simp] theorem State.useDraws_ireg (s : State) (n : Nat) : (s.useDraws n).ireg = s.ireg := rfl
@[simp] theorem State.useDraws_mem (s : State) (n : Nat) : (s.useDraws n).mem = s.mem := rfl
@[simp] theorem State.useDraws_resetPending (s : State) (n : Nat) :
    (s.useDraws n).resetPending = s.resetPending := rfl
@[simp] theorem State.useDraws_nmiPending (s : State) (n : Nat) :
    (s.useDraws n).nmiPending = s.nmiPending := rfl
@[simp] theorem State.useDraws_irqs (s : State) (n : Nat) : (s.useDraws n).irqs = s.irqs := rfl
@[simp] theorem State.useDraws_params (s : State) (n : Nat) :
    (s.useDraws n).params = s.params := rfl

/-! ### `touch`: only the record of the bus changes -/

@[simp] theorem State.touch_a (s : State) (a : Word) : (s.touch a).a = s.a := rfl
@[simp] theorem State.touch_x (s : State) (a : Word) : (s.touch a).x = s.x := rfl
@[simp] theorem State.touch_y (s : State) (a : Word) : (s.touch a).y = s.y := rfl
@[simp] theorem State.touch_sp (s : State) (a : Word) : (s.touch a).sp = s.sp := rfl
@[simp] theorem State.touch_p (s : State) (a : Word) : (s.touch a).p = s.p := rfl
@[simp] theorem State.touch_pc (s : State) (a : Word) : (s.touch a).pc = s.pc := rfl
@[simp] theorem State.touch_w (s : State) (a : Word) : (s.touch a).w = s.w := rfl
@[simp] theorem State.touch_ireg (s : State) (a : Word) : (s.touch a).ireg = s.ireg := rfl
@[simp] theorem State.touch_mem (s : State) (a : Word) : (s.touch a).mem = s.mem := rfl
@[simp] theorem State.touch_resetPending (s : State) (a : Word) :
    (s.touch a).resetPending = s.resetPending := rfl
@[simp] theorem State.touch_nmiPending (s : State) (a : Word) :
    (s.touch a).nmiPending = s.nmiPending := rfl
@[simp] theorem State.touch_irqs (s : State) (a : Word) : (s.touch a).irqs = s.irqs := rfl
@[simp] theorem State.touch_params (s : State) (a : Word) : (s.touch a).params = s.params := rfl

/-! ### `draw`: only the record of the bus changes -/

@[simp] theorem State.draw_a (s : State) : s.draw.2.a = s.a := rfl
@[simp] theorem State.draw_x (s : State) : s.draw.2.x = s.x := rfl
@[simp] theorem State.draw_y (s : State) : s.draw.2.y = s.y := rfl
@[simp] theorem State.draw_sp (s : State) : s.draw.2.sp = s.sp := rfl
@[simp] theorem State.draw_p (s : State) : s.draw.2.p = s.p := rfl
@[simp] theorem State.draw_pc (s : State) : s.draw.2.pc = s.pc := rfl
@[simp] theorem State.draw_w (s : State) : s.draw.2.w = s.w := rfl
@[simp] theorem State.draw_ireg (s : State) : s.draw.2.ireg = s.ireg := rfl
@[simp] theorem State.draw_mem (s : State) : s.draw.2.mem = s.mem := rfl
@[simp] theorem State.draw_resetPending (s : State) : s.draw.2.resetPending = s.resetPending := rfl
@[simp] theorem State.draw_nmiPending (s : State) : s.draw.2.nmiPending = s.nmiPending := rfl
@[simp] theorem State.draw_irqs (s : State) : s.draw.2.irqs = s.irqs := rfl
@[simp] theorem State.draw_params (s : State) : s.draw.2.params = s.params := rfl

/-! ### `write`: only memory and the record of the bus change -/

@[simp] theorem State.write_a (s : State) (a : Word) (v : Byte) : (s.write a v).a = s.a := rfl
@[simp] theorem State.write_x (s : State) (a : Word) (v : Byte) : (s.write a v).x = s.x := rfl
@[simp] theorem State.write_y (s : State) (a : Word) (v : Byte) : (s.write a v).y = s.y := rfl
@[simp] theorem State.write_sp (s : State) (a : Word) (v : Byte) : (s.write a v).sp = s.sp := rfl
@[simp] theorem State.write_p (s : State) (a : Word) (v : Byte) : (s.write a v).p = s.p := rfl
@[simp] theorem State.write_pc (s : State) (a : Word) (v : Byte) : (s.write a v).pc = s.pc := rfl
@[simp] theorem State.write_w (s : State) (a : Word) (v : Byte) : (s.write a v).w = s.w := rfl
@[simp] theorem State.write_ireg (s : State) (a : Word) (v : Byte) :
    (s.write a v).ireg = s.ireg := rfl
@[simp] theorem State.write_resetPending (s : State) (a : Word) (v : Byte) :
    (s.write a v).resetPending = s.resetPending := rfl
@[simp] theorem State.write_nmiPending (s : State) (a : Word) (v : Byte) :
    (s.write a v).nmiPending = s.nmiPending := rfl
@[simp] theorem State.write_irqs (s : State) (a : Word) (v : Byte) :
    (s.write a v).irqs = s.irqs := rfl
@[simp] theorem State.write_params (s : State) (a : Word) (v : Byte) :
    (s.write a v).params = s.params := rfl

/-! ### `push` and `pull`: S besides -/

@[simp] theorem State.push_a (s : State) (v : Byte) : (s.push v).a = s.a := rfl
@[simp] theorem State.push_x (s : State) (v : Byte) : (s.push v).x = s.x := rfl
@[simp] theorem State.push_y (s : State) (v : Byte) : (s.push v).y = s.y := rfl
@[simp] theorem State.push_sp (s : State) (v : Byte) : (s.push v).sp = s.sp - 1 := rfl
@[simp] theorem State.push_p (s : State) (v : Byte) : (s.push v).p = s.p := rfl
@[simp] theorem State.push_pc (s : State) (v : Byte) : (s.push v).pc = s.pc := rfl
@[simp] theorem State.push_w (s : State) (v : Byte) : (s.push v).w = s.w := rfl
@[simp] theorem State.push_ireg (s : State) (v : Byte) : (s.push v).ireg = s.ireg := rfl
@[simp] theorem State.push_resetPending (s : State) (v : Byte) :
    (s.push v).resetPending = s.resetPending := rfl
@[simp] theorem State.push_nmiPending (s : State) (v : Byte) :
    (s.push v).nmiPending = s.nmiPending := rfl
@[simp] theorem State.push_irqs (s : State) (v : Byte) : (s.push v).irqs = s.irqs := rfl
@[simp] theorem State.push_params (s : State) (v : Byte) : (s.push v).params = s.params := rfl
@[simp] theorem State.pull_a (s : State) : s.pull.2.a = s.a := rfl
@[simp] theorem State.pull_x (s : State) : s.pull.2.x = s.x := rfl
@[simp] theorem State.pull_y (s : State) : s.pull.2.y = s.y := rfl
@[simp] theorem State.pull_sp (s : State) : s.pull.2.sp = s.sp + 1 := rfl
@[simp] theorem State.pull_p (s : State) : s.pull.2.p = s.p := rfl
@[simp] theorem State.pull_pc (s : State) : s.pull.2.pc = s.pc := rfl
@[simp] theorem State.pull_w (s : State) : s.pull.2.w = s.w := rfl
@[simp] theorem State.pull_ireg (s : State) : s.pull.2.ireg = s.ireg := rfl
@[simp] theorem State.pull_mem (s : State) : s.pull.2.mem = s.mem := rfl
@[simp] theorem State.pull_resetPending (s : State) : s.pull.2.resetPending = s.resetPending := rfl
@[simp] theorem State.pull_nmiPending (s : State) : s.pull.2.nmiPending = s.nmiPending := rfl
@[simp] theorem State.pull_irqs (s : State) : s.pull.2.irqs = s.irqs := rfl
@[simp] theorem State.pull_params (s : State) : s.pull.2.params = s.params := rfl

/-! ### Flags -/

@[simp] theorem Status.setNZ_n (p : Status) (v : Byte) : (p.setNZ v).n = v.msb := rfl
@[simp] theorem Status.setNZ_v (p : Status) (v : Byte) : (p.setNZ v).v = p.v := rfl
@[simp] theorem Status.setNZ_b (p : Status) (v : Byte) : (p.setNZ v).b = p.b := rfl
@[simp] theorem Status.setNZ_d (p : Status) (v : Byte) : (p.setNZ v).d = p.d := rfl
@[simp] theorem Status.setNZ_i (p : Status) (v : Byte) : (p.setNZ v).i = p.i := rfl
@[simp] theorem Status.setNZ_z (p : Status) (v : Byte) : (p.setNZ v).z = decide (v = 0) := rfl
@[simp] theorem Status.setNZ_c (p : Status) (v : Byte) : (p.setNZ v).c = p.c := rfl
@[simp] theorem Status.setAlu_n (p : Status) (o : AluResult) : (p.setAlu o).n = o.n := rfl
@[simp] theorem Status.setAlu_v (p : Status) (o : AluResult) : (p.setAlu o).v = o.v := rfl
@[simp] theorem Status.setAlu_b (p : Status) (o : AluResult) : (p.setAlu o).b = p.b := rfl
@[simp] theorem Status.setAlu_d (p : Status) (o : AluResult) : (p.setAlu o).d = p.d := rfl
@[simp] theorem Status.setAlu_i (p : Status) (o : AluResult) : (p.setAlu o).i = p.i := rfl
@[simp] theorem Status.setAlu_z (p : Status) (o : AluResult) : (p.setAlu o).z = o.z := rfl
@[simp] theorem Status.setAlu_c (p : Status) (o : AluResult) : (p.setAlu o).c = o.c := rfl

end Sys2Proof.Machine
end

