-- ==== Sys2Proof/Laws/Ops.lean ====
section
/-! SUPPORT. One lemma for each shared operation that says once what it can do: what it leaves
alone, what it does to memory, what it yields, and its cycles. -/

namespace Sys2Proof.Machine

/-! ### Bytes and words -/

theorem wordOf_getLsbD (hi lo : Byte) (i : Nat) :
    (wordOf hi lo).getLsbD i = if i < 8 then lo.getLsbD i else hi.getLsbD (i - 8) :=
  (BitVec.getLsbD_append (x := hi) (y := lo)).trans (by simp)

@[simp] theorem hiByte_wordOf (hi lo : Byte) : hiByte (wordOf hi lo) = hi := by
  apply BitVec.eq_of_getLsbD_eq
  intro i h
  simp [hiByte, wordOf_getLsbD, h]

@[simp] theorem loByte_wordOf (hi lo : Byte) : loByte (wordOf hi lo) = lo := by
  apply BitVec.eq_of_getLsbD_eq
  intro i h
  simp [loByte, wordOf_getLsbD, h]

@[simp] theorem wordOf_hiByte_loByte (w : Word) : wordOf (hiByte w) (loByte w) = w := by
  apply BitVec.eq_of_getLsbD_eq
  intro i h
  rw [wordOf_getLsbD]
  split
  · rename_i h8
    simp [loByte, h8]
  · rename_i h8
    have e : 8 + (i - 8) = i := by omega
    have l : i - 8 < 8 := by omega
    simp [hiByte, e, l]

theorem wordOf_toNat (hi lo : Byte) : (wordOf hi lo).toNat = 256 * hi.toNat + lo.toNat := by
  have h : lo.toNat < 2 ^ 8 := lo.isLt
  rw [wordOf, BitVec.toNat_append, Nat.shiftLeft_eq, Nat.or_comm]
  have := Nat.two_pow_add_eq_or_of_lt h hi.toNat
  rw [Nat.or_comm, Nat.mul_comm hi.toNat, ← this]

@[simp] theorem stackAddr_toNat (sp : Byte) : (stackAddr sp).toNat = 256 + sp.toNat := by
  have h : sp.toNat < 256 := sp.isLt
  simp [stackAddr, zext, BitVec.toNat_add]
  omega

@[simp] theorem stackAddr_inj (a b : Byte) : stackAddr a = stackAddr b ↔ a = b := by
  constructor
  · intro h
    have := congrArg BitVec.toNat h
    simp at this
    exact BitVec.eq_of_toNat_eq this
  · rintro rfl
    rfl

/-! ### What stands at an address -/

/-- The kind of an address depends on the parameters alone. -/
theorem State.kindAt_congr {s t : State} (h : t.params = s.params) (a : Word) :
    t.kindAt a = s.kindAt a := by
  simp [State.kindAt, h]

/-- The byte at an address depends on memory alone. -/
theorem State.byteAt_congr {s t : State} (h : t.mem = s.mem) (a : Word) :
    t.byteAt a = s.byteAt a := by
  simp [State.byteAt, h]

/-- Where there is memory a read yields the stored byte. -/
theorem State.peek_stored {s : State} {a : Word} (h : s.kindAt a = .ram ∨ s.kindAt a = .rom) :
    s.peek a = s.byteAt a := by
  rcases h with h | h <;> simp [State.peek, h]

@[simp] theorem State.byteAt_touch (s : State) (a b : Word) :
    (s.touch a).byteAt b = s.byteAt b := rfl

@[simp] theorem State.kindAt_touch (s : State) (a b : Word) :
    (s.touch a).kindAt b = s.kindAt b := rfl

@[simp] theorem State.kindAt_write (s : State) (a b : Word) (v : Byte) :
    (s.write a v).kindAt b = s.kindAt b := rfl

/-- A write: only read/write memory takes the byte, every other address keeps its own. -/
theorem State.byteAt_write (s : State) (a b : Word) (v : Byte) :
    (s.write a v).byteAt b = if s.kindAt a = .ram ∧ b = a then v else s.byteAt b := by
  simp [State.byteAt, State.write, memAfterWrite_byteAt, BitVec.toNat_inj]

/-- A write keeps the canonical form of memory. -/
theorem State.wf_write (s : State) (a : Word) (v : Byte) (h : Memory.wf s.mem = true) :
    Memory.wf (s.write a v).mem = true :=
  memAfterWrite_wf _ a v h

/-! ### Cycles: one for each access (R335) -/

@[simp] theorem busAfterRead_cycles (k : RegionKind) (a : Word) (b : Bus) :
    (busAfterRead k a b).cycles = b.cycles + 1 := by
  cases k <;> rfl

@[simp] theorem busAfterWrite_cycles (k : RegionKind) (a : Word) (v : Byte) (b : Bus) :
    (busAfterWrite k a v b).cycles = b.cycles + 1 := by
  cases k <;> rfl

@[simp] theorem State.touch_cycles (s : State) (a : Word) :
    (s.touch a).bus.cycles = s.bus.cycles + 1 :=
  busAfterRead_cycles _ _ _

@[simp] theorem State.write_cycles (s : State) (a : Word) (v : Byte) :
    (s.write a v).bus.cycles = s.bus.cycles + 1 :=
  busAfterWrite_cycles _ _ _ _

@[simp] theorem State.tick_cycles (s : State) (n : Nat) :
    (s.tick n).bus.cycles = s.bus.cycles + n := rfl

@[simp] theorem State.useDraws_cycles (s : State) (n : Nat) :
    (s.useDraws n).bus.cycles = s.bus.cycles := rfl

@[simp] theorem State.draw_cycles (s : State) : s.draw.2.bus.cycles = s.bus.cycles := rfl

@[simp] theorem State.push_cycles (s : State) (v : Byte) :
    (s.push v).bus.cycles = s.bus.cycles + 1 :=
  busAfterWrite_cycles _ _ _ _

@[simp] theorem State.pull_cycles (s : State) : s.pull.2.bus.cycles = s.bus.cycles + 1 :=
  busAfterRead_cycles _ _ _

/-! ### Operations that change only the record of the bus -/

/-- Discarded reads change only the record of the bus. -/
theorem State.touchTimes_only_bus (n : Nat) (s : State) (a : Word) :
    ∃ b : Bus, State.touchTimes n s a = { s with bus := b } ∧ b.cycles = s.bus.cycles + n := by
  induction n generalizing s with
  | zero => exact ⟨s.bus, rfl, rfl⟩
  | succ n ih =>
    obtain ⟨b, hb, hc⟩ := ih (s.touch a)
    exact ⟨b, by rw [State.touchTimes, hb]; rfl, by rw [hc, State.touch_cycles]; omega⟩

/-- A 16-bit read changes only the record of the bus: two cycles. -/
theorem State.read16_only_bus (s : State) (a : Word) :
    ∃ b : Bus, (s.read16 a).2 = { s with bus := b } ∧ b.cycles = s.bus.cycles + 2 := by
  refine ⟨((s.touch a).touch (a + 1)).bus, ?_, by simp⟩
  apply State.ext <;> simp [State.read16, State.read]

/-- A 16-bit read in page zero changes only the record of the bus: two cycles. -/
theorem State.read16zp_only_bus (s : State) (n : Byte) :
    ∃ b : Bus, (s.read16zp n).2 = { s with bus := b } ∧ b.cycles = s.bus.cycles + 2 := by
  refine ⟨((s.touch (zext n)).touch (zext (n + 1))).bus, ?_, by simp⟩
  apply State.ext <;> simp [State.read16zp, State.read]

/-- Adding an index changes only the record of the bus. -/
theorem State.indexed_only_bus (s : State) (k : Access) (base : Word) (index : Byte) :
    ∃ b : Bus, (s.indexed k base index).2 = { s with bus := b } ∧
      b.cycles =
        s.bus.cycles + (if k = .write ∨ crossesPage base index = true then 1 else 0) := by
  unfold State.indexed
  by_cases h : k = .write ∨ crossesPage base index = true
  · refine ⟨(s.touch (uncorrected base index)).bus, ?_, ?_⟩
    · simp only [if_pos h]
      rfl
    · simp [h]
  · exact ⟨s.bus, by simp only [if_neg h], by simp [h]⟩

/-- Forming an effective address changes only the record of the bus. -/
theorem State.resolve_only_bus (s : State) (k : Access) (m : Mode) :
    ∃ b : Bus, (s.resolve k m).2 = { s with bus := b } := by
  cases m with
  | zp n => exact ⟨s.bus, rfl⟩
  | zpX n => exact ⟨_, rfl⟩
  | zpY n => exact ⟨_, rfl⟩
  | abs nn => exact ⟨s.bus, rfl⟩
  | absX nn => exact (s.indexed_only_bus k nn s.x).imp fun _ h => h.1
  | absY nn => exact (s.indexed_only_bus k nn s.y).imp fun _ h => h.1
  | ind n => exact (s.read16zp_only_bus n).imp fun _ h => h.1
  | indX n =>
    obtain ⟨b, hb⟩ := (s.read16zp n).2.indexed_only_bus k (s.read16zp n).1 s.x
    obtain ⟨b', hb'⟩ := s.read16zp_only_bus n
    exact ⟨b, by rw [State.resolve, hb.1, hb'.1]⟩

/-- Reading an operand changes only the record of the bus. -/
theorem State.operand_only_bus (s : State) (o : Operand) :
    ∃ b : Bus, (s.operand o).2 = { s with bus := b } := by
  cases o with
  | imm n => exact ⟨s.bus, rfl⟩
  | mem m =>
    obtain ⟨b, hb⟩ := s.resolve_only_bus .read m
    exact ⟨((s.resolve .read m).2.touch (s.resolve .read m).1).bus, by
      rw [State.operand]
      simp only [State.read, State.touch, hb]⟩

theorem State.read16_snd (s : State) (a : Word) :
    (s.read16 a).2 = (s.touch a).touch (a + 1) := rfl

/-! ### The fields after operations that change only the record of the bus -/

@[simp] theorem State.touchTimes_a (n : Nat) (s : State) (a : Word) :
    (State.touchTimes n s a).a = s.a := by
  obtain ⟨b, h, _⟩ := State.touchTimes_only_bus n s a
  rw [h]

@[simp] theorem State.touchTimes_x (n : Nat) (s : State) (a : Word) :
    (State.touchTimes n s a).x = s.x := by
  obtain ⟨b, h, _⟩ := State.touchTimes_only_bus n s a
  rw [h]

@[simp] theorem State.touchTimes_y (n : Nat) (s : State) (a : Word) :
    (State.touchTimes n s a).y = s.y := by
  obtain ⟨b, h, _⟩ := State.touchTimes_only_bus n s a
  rw [h]

@[simp] theorem State.touchTimes_sp (n : Nat) (s : State) (a : Word) :
    (State.touchTimes n s a).sp = s.sp := by
  obtain ⟨b, h, _⟩ := State.touchTimes_only_bus n s a
  rw [h]

@[simp] theorem State.touchTimes_p (n : Nat) (s : State) (a : Word) :
    (State.touchTimes n s a).p = s.p := by
  obtain ⟨b, h, _⟩ := State.touchTimes_only_bus n s a
  rw [h]

@[simp] theorem State.touchTimes_pc (n : Nat) (s : State) (a : Word) :
    (State.touchTimes n s a).pc = s.pc := by
  obtain ⟨b, h, _⟩ := State.touchTimes_only_bus n s a
  rw [h]

@[simp] theorem State.touchTimes_w (n : Nat) (s : State) (a : Word) :
    (State.touchTimes n s a).w = s.w := by
  obtain ⟨b, h, _⟩ := State.touchTimes_only_bus n s a
  rw [h]

@[simp] theorem State.touchTimes_ireg (n : Nat) (s : State) (a : Word) :
    (State.touchTimes n s a).ireg = s.ireg := by
  obtain ⟨b, h, _⟩ := State.touchTimes_only_bus n s a
  rw [h]

@[simp] theorem State.touchTimes_mem (n : Nat) (s : State) (a : Word) :
    (State.touchTimes n s a).mem = s.mem := by
  obtain ⟨b, h, _⟩ := State.touchTimes_only_bus n s a
  rw [h]

@[simp] theorem State.touchTimes_resetPending (n : Nat) (s : State) (a : Word) :
    (State.touchTimes n s a).resetPending = s.resetPending := by
  obtain ⟨b, h, _⟩ := State.touchTimes_only_bus n s a
  rw [h]

@[simp] theorem State.touchTimes_nmiPending (n : Nat) (s : State) (a : Word) :
    (State.touchTimes n s a).nmiPending = s.nmiPending := by
  obtain ⟨b, h, _⟩ := State.touchTimes_only_bus n s a
  rw [h]

@[simp] theorem State.touchTimes_irqs (n : Nat) (s : State) (a : Word) :
    (State.touchTimes n s a).irqs = s.irqs := by
  obtain ⟨b, h, _⟩ := State.touchTimes_only_bus n s a
  rw [h]

@[simp] theorem State.touchTimes_params (n : Nat) (s : State) (a : Word) :
    (State.touchTimes n s a).params = s.params := by
  obtain ⟨b, h, _⟩ := State.touchTimes_only_bus n s a
  rw [h]

@[simp] theorem State.read16_a (s : State) (a : Word) : (s.read16 a).2.a = s.a := rfl

@[simp] theorem State.read16_x (s : State) (a : Word) : (s.read16 a).2.x = s.x := rfl

@[simp] theorem State.read16_y (s : State) (a : Word) : (s.read16 a).2.y = s.y := rfl

@[simp] theorem State.read16_sp (s : State) (a : Word) : (s.read16 a).2.sp = s.sp := rfl

@[simp] theorem State.read16_p (s : State) (a : Word) : (s.read16 a).2.p = s.p := rfl

@[simp] theorem State.read16_pc (s : State) (a : Word) : (s.read16 a).2.pc = s.pc := rfl

@[simp] theorem State.read16_w (s : State) (a : Word) : (s.read16 a).2.w = s.w := rfl

@[simp] theorem State.read16_ireg (s : State) (a : Word) : (s.read16 a).2.ireg = s.ireg := rfl

@[simp] theorem State.read16_mem (s : State) (a : Word) : (s.read16 a).2.mem = s.mem := rfl

@[simp] theorem State.read16_resetPending (s : State) (a : Word) :
    (s.read16 a).2.resetPending = s.resetPending := rfl

@[simp] theorem State.read16_nmiPending (s : State) (a : Word) :
    (s.read16 a).2.nmiPending = s.nmiPending := rfl

@[simp] theorem State.read16_irqs (s : State) (a : Word) : (s.read16 a).2.irqs = s.irqs := rfl

@[simp] theorem State.read16_params (s : State) (a : Word) : (s.read16 a).2.params = s.params := rfl

@[simp] theorem State.resolve_a (s : State) (k : Access) (m : Mode) :
    (s.resolve k m).2.a = s.a := by
  obtain ⟨b, h⟩ := s.resolve_only_bus k m
  rw [h]

@[simp] theorem State.resolve_x (s : State) (k : Access) (m : Mode) :
    (s.resolve k m).2.x = s.x := by
  obtain ⟨b, h⟩ := s.resolve_only_bus k m
  rw [h]

@[simp] theorem State.resolve_y (s : State) (k : Access) (m : Mode) :
    (s.resolve k m).2.y = s.y := by
  obtain ⟨b, h⟩ := s.resolve_only_bus k m
  rw [h]

@[simp] theorem State.resolve_sp (s : State) (k : Access) (m : Mode) :
    (s.resolve k m).2.sp = s.sp := by
  obtain ⟨b, h⟩ := s.resolve_only_bus k m
  rw [h]

@[simp] theorem State.resolve_p (s : State) (k : Access) (m : Mode) :
    (s.resolve k m).2.p = s.p := by
  obtain ⟨b, h⟩ := s.resolve_only_bus k m
  rw [h]

@[simp] theorem State.resolve_pc (s : State) (k : Access) (m : Mode) :
    (s.resolve k m).2.pc = s.pc := by
  obtain ⟨b, h⟩ := s.resolve_only_bus k m
  rw [h]

@[simp] theorem State.resolve_w (s : State) (k : Access) (m : Mode) :
    (s.resolve k m).2.w = s.w := by
  obtain ⟨b, h⟩ := s.resolve_only_bus k m
  rw [h]

@[simp] theorem State.resolve_ireg (s : State) (k : Access) (m : Mode) :
    (s.resolve k m).2.ireg = s.ireg := by
  obtain ⟨b, h⟩ := s.resolve_only_bus k m
  rw [h]

@[simp] theorem State.resolve_mem (s : State) (k : Access) (m : Mode) :
    (s.resolve k m).2.mem = s.mem := by
  obtain ⟨b, h⟩ := s.resolve_only_bus k m
  rw [h]

@[simp] theorem State.resolve_resetPending (s : State) (k : Access) (m : Mode) :
    (s.resolve k m).2.resetPending = s.resetPending := by
  obtain ⟨b, h⟩ := s.resolve_only_bus k m
  rw [h]

@[simp] theorem State.resolve_nmiPending (s : State) (k : Access) (m : Mode) :
    (s.resolve k m).2.nmiPending = s.nmiPending := by
  obtain ⟨b, h⟩ := s.resolve_only_bus k m
  rw [h]

@[simp] theorem State.resolve_irqs (s : State) (k : Access) (m : Mode) :
    (s.resolve k m).2.irqs = s.irqs := by
  obtain ⟨b, h⟩ := s.resolve_only_bus k m
  rw [h]

@[simp] theorem State.resolve_params (s : State) (k : Access) (m : Mode) :
    (s.resolve k m).2.params = s.params := by
  obtain ⟨b, h⟩ := s.resolve_only_bus k m
  rw [h]

@[simp] theorem State.operand_a (s : State) (o : Operand) : (s.operand o).2.a = s.a := by
  obtain ⟨b, h⟩ := s.operand_only_bus o
  rw [h]

@[simp] theorem State.operand_x (s : State) (o : Operand) : (s.operand o).2.x = s.x := by
  obtain ⟨b, h⟩ := s.operand_only_bus o
  rw [h]

@[simp] theorem State.operand_y (s : State) (o : Operand) : (s.operand o).2.y = s.y := by
  obtain ⟨b, h⟩ := s.operand_only_bus o
  rw [h]

@[simp] theorem State.operand_sp (s : State) (o : Operand) : (s.operand o).2.sp = s.sp := by
  obtain ⟨b, h⟩ := s.operand_only_bus o
  rw [h]

@[simp] theorem State.operand_p (s : State) (o : Operand) : (s.operand o).2.p = s.p := by
  obtain ⟨b, h⟩ := s.operand_only_bus o
  rw [h]

@[simp] theorem State.operand_pc (s : State) (o : Operand) : (s.operand o).2.pc = s.pc := by
  obtain ⟨b, h⟩ := s.operand_only_bus o
  rw [h]

@[simp] theorem State.operand_w (s : State) (o : Operand) : (s.operand o).2.w = s.w := by
  obtain ⟨b, h⟩ := s.operand_only_bus o
  rw [h]

@[simp] theorem State.operand_ireg (s : State) (o : Operand) : (s.operand o).2.ireg = s.ireg := by
  obtain ⟨b, h⟩ := s.operand_only_bus o
  rw [h]

@[simp] theorem State.operand_mem (s : State) (o : Operand) : (s.operand o).2.mem = s.mem := by
  obtain ⟨b, h⟩ := s.operand_only_bus o
  rw [h]

@[simp] theorem State.operand_resetPending (s : State) (o : Operand) :
    (s.operand o).2.resetPending = s.resetPending := by
  obtain ⟨b, h⟩ := s.operand_only_bus o
  rw [h]

@[simp] theorem State.operand_nmiPending (s : State) (o : Operand) :
    (s.operand o).2.nmiPending = s.nmiPending := by
  obtain ⟨b, h⟩ := s.operand_only_bus o
  rw [h]

@[simp] theorem State.operand_irqs (s : State) (o : Operand) : (s.operand o).2.irqs = s.irqs := by
  obtain ⟨b, h⟩ := s.operand_only_bus o
  rw [h]

@[simp] theorem State.operand_params (s : State) (o : Operand) :
    (s.operand o).2.params = s.params := by
  obtain ⟨b, h⟩ := s.operand_only_bus o
  rw [h]

/-! ### The stack -/

/-- A push: the byte at the old S, S - 1, nothing else in memory. -/
theorem State.byteAt_push (s : State) (v : Byte) (b : Word) :
    (s.push v).byteAt b =
      if s.kindAt (stackAddr s.sp) = .ram ∧ b = stackAddr s.sp then v else s.byteAt b :=
  s.byteAt_write (stackAddr s.sp) b v

@[simp] theorem State.kindAt_push (s : State) (v : Byte) (b : Word) :
    (s.push v).kindAt b = s.kindAt b := rfl

theorem State.wf_push (s : State) (v : Byte) (h : Memory.wf s.mem = true) :
    Memory.wf (s.push v).mem = true :=
  s.wf_write _ v h

/-- A push changes S, memory and the record of the bus. -/
theorem State.push_eq (s : State) (v : Byte) :
    s.push v = { s with sp := s.sp - 1, mem := (s.push v).mem, bus := (s.push v).bus } := rfl

/-- A 16-bit push: the high byte at the old S, the low byte below it (R45). -/
theorem State.byteAt_push16 (s : State) (v : Word) (b : Word) :
    (s.push16 v).byteAt b =
      if s.kindAt (stackAddr (s.sp - 1)) = .ram ∧ b = stackAddr (s.sp - 1) then loByte v
      else if s.kindAt (stackAddr s.sp) = .ram ∧ b = stackAddr s.sp then hiByte v
      else s.byteAt b := by
  simp [State.push16, State.byteAt_push]

/-- A 16-bit push changes S, memory and the record of the bus. -/
theorem State.push16_eq (s : State) (v : Word) :
    s.push16 v =
      { s with sp := s.sp - 1 - 1, mem := (s.push16 v).mem, bus := (s.push16 v).bus } := rfl

theorem State.wf_push16 (s : State) (v : Word) (h : Memory.wf s.mem = true) :
    Memory.wf (s.push16 v).mem = true :=
  State.wf_push _ _ (State.wf_push _ _ h)

/-- A pull yields the byte above the old S. -/
theorem State.pull_value {s : State}
    (h : s.kindAt (stackAddr (s.sp + 1)) = .ram ∨ s.kindAt (stackAddr (s.sp + 1)) = .rom) :
    s.pull.1 = s.byteAt (stackAddr (s.sp + 1)) :=
  State.peek_stored (s := s.setSp (s.sp + 1)) h

/-- A 16-bit pull yields the two bytes above the old S, low byte first (R45). -/
theorem State.pull16_value {s : State}
    (h1 : s.kindAt (stackAddr (s.sp + 1)) = .ram ∨ s.kindAt (stackAddr (s.sp + 1)) = .rom)
    (h2 : s.kindAt (stackAddr (s.sp + 1 + 1)) = .ram ∨
      s.kindAt (stackAddr (s.sp + 1 + 1)) = .rom) :
    s.pull16.1 =
      wordOf (s.byteAt (stackAddr (s.sp + 1 + 1))) (s.byteAt (stackAddr (s.sp + 1))) := by
  have e1 : s.pull.1 = s.byteAt (stackAddr (s.sp + 1)) := State.pull_value h1
  have e2 : s.pull.2.pull.1 = s.byteAt (stackAddr (s.sp + 1 + 1)) :=
    State.pull_value (s := s.pull.2) h2
  simp [State.pull16, e1, e2]

/-- A 16-bit pull changes S and the record of the bus. -/
theorem State.pull16_only_sp_bus (s : State) :
    ∃ b : Bus, s.pull16.2 = { s with sp := s.sp + 1 + 1, bus := b } ∧
      b.cycles = s.bus.cycles + 2 := by
  refine ⟨s.pull.2.pull.2.bus, ?_, by simp⟩
  apply State.ext <;> simp [State.pull16]

/-! ### Reads of two bytes -/

/-- A 16-bit read where there is memory yields the two stored bytes, low byte first (R43). -/
theorem State.read16_value {s : State} {a : Word}
    (h1 : s.kindAt a = .ram ∨ s.kindAt a = .rom)
    (h2 : s.kindAt (a + 1) = .ram ∨ s.kindAt (a + 1) = .rom) :
    (s.read16 a).1 = wordOf (s.byteAt (a + 1)) (s.byteAt a) := by
  have e1 : s.peek a = s.byteAt a := State.peek_stored h1
  have e2 : (s.touch a).peek (a + 1) = s.byteAt (a + 1) := State.peek_stored (s := s.touch a) h2
  change wordOf ((s.touch a).peek (a + 1)) (s.peek a) = _
  rw [e1, e2]

/-- The same in page zero (R108). -/
theorem State.read16zp_value {s : State} {n : Byte}
    (h1 : s.kindAt (zext n) = .ram ∨ s.kindAt (zext n) = .rom)
    (h2 : s.kindAt (zext (n + 1)) = .ram ∨ s.kindAt (zext (n + 1)) = .rom) :
    (s.read16zp n).1 = wordOf (s.byteAt (zext (n + 1))) (s.byteAt (zext n)) := by
  have e1 : s.peek (zext n) = s.byteAt (zext n) := State.peek_stored h1
  have e2 : (s.touch (zext n)).peek (zext (n + 1)) = s.byteAt (zext (n + 1)) :=
    State.peek_stored (s := s.touch (zext n)) h2
  change wordOf ((s.touch (zext n)).peek (zext (n + 1))) (s.peek (zext n)) = _
  rw [e1, e2]

/-! ### Exceptions -/

/-- Taking an exception: what it writes beside memory and the record of the bus. -/
theorem State.takeException_eq (s : State) (ret vector : Word) (setB : Bool) :
    s.takeException ret vector setB =
      { s with
        sp := s.sp - 1 - 1 - 1
        p := { s.p with b := s.p.b || setB, i := true }
        pc := (s.takeException ret vector setB).pc
        mem := ((s.push16 ret).push (pByte s.params.pBit5 s.p)).mem
        bus := (s.takeException ret vector setB).bus } := by
  apply State.ext <;> simp [State.takeException, State.read16_snd, State.push16]

/-- The memory that an exception leaves is the one after its three pushes. -/
theorem State.takeException_mem (s : State) (ret vector : Word) (setB : Bool) :
    (s.takeException ret vector setB).mem =
      ((s.push16 ret).push (pByte s.params.pBit5 s.p)).mem := by
  simp [State.takeException, State.read16_snd]

/-- The three bytes that an exception pushes (R307). -/
theorem State.byteAt_takeException (s : State) (ret vector : Word) (setB : Bool) (b : Word) :
    (s.takeException ret vector setB).byteAt b =
      if s.kindAt (stackAddr (s.sp - 1 - 1)) = .ram ∧ b = stackAddr (s.sp - 1 - 1) then
        pByte s.params.pBit5 s.p
      else (s.push16 ret).byteAt b := by
  rw [State.byteAt_congr (s.takeException_mem ret vector setB), State.byteAt_push]
  simp only [State.push16, State.push_sp, State.kindAt_push]
  exact if_congr Iff.rfl rfl rfl

/-- Taking an exception keeps the canonical form of memory. -/
theorem State.wf_takeException (s : State) (ret vector : Word) (setB : Bool)
    (h : Memory.wf s.mem = true) : Memory.wf (s.takeException ret vector setB).mem = true := by
  rw [s.takeException_mem]
  exact State.wf_push _ _ (s.wf_push16 ret h)

/-- Where an exception continues: at the address that the vector holds when the pushes are done
(R306). -/
theorem State.takeException_pc {s : State} {ret vector : Word} {setB : Bool}
    (h1 : s.kindAt vector = .ram ∨ s.kindAt vector = .rom)
    (h2 : s.kindAt (vector + 1) = .ram ∨ s.kindAt (vector + 1) = .rom) :
    (s.takeException ret vector setB).pc =
      wordOf ((s.takeException ret vector setB).byteAt (vector + 1))
        ((s.takeException ret vector setB).byteAt vector) := by
  have hm := s.takeException_mem ret vector setB
  rw [State.byteAt_congr hm, State.byteAt_congr hm]
  simp only [State.takeException, State.setPc_pc]
  rw [State.read16_value]
  · rw [State.byteAt_congr (State.setP_mem _ _), State.byteAt_congr (State.setP_mem _ _)]
  · rwa [State.kindAt_congr (s := s) (by simp [State.push16])]
  · rwa [State.kindAt_congr (s := s) (by simp [State.push16])]

/-- Returning from an exception: what it writes (R236). -/
theorem State.returnFromException_eq (s : State) :
    s.returnFromException =
      { s with
        sp := s.sp + 1 + 1 + 1
        p := restoreP s.pull.1 s.p
        pc := s.returnFromException.pc
        bus := s.returnFromException.bus } := by
  apply State.ext <;> simp [State.returnFromException, State.pull16]

/-- The hardware sequence pushes what taking an exception pushes; the op code it fetches and drops
changes no byte (R305). -/
theorem State.byteAt_interruptSequence (s : State) (vector b : Word) :
    (s.interruptSequence vector).byteAt b = (s.takeException s.pc vector false).byteAt b := by
  obtain ⟨c, h, _⟩ := State.touchTimes_only_bus 2 s s.pc
  rw [State.interruptSequence, h, State.byteAt_takeException, State.byteAt_takeException,
    State.byteAt_push16, State.byteAt_push16]
  rfl

/-- The ignored reads of the start sequence change only the record of the bus: five cycles. -/
theorem State.startReads_only_bus (s : State) :
    ∃ b : Bus, s.startReads = { s with bus := b } ∧ b.cycles = s.bus.cycles + 5 :=
  ⟨s.startReads.bus, by apply State.ext <;> simp [State.startReads], by simp [State.startReads]⟩

/-- The start sequence writes no memory, and its seven accesses make seven cycles (R330). -/
theorem State.startSequence_frame (s : State) :
    s.startSequence.mem = s.mem ∧ s.startSequence.params = s.params ∧
      s.startSequence.bus.cycles = s.bus.cycles + 7 := by
  obtain ⟨b, h, hc⟩ := s.startReads_only_bus
  simp [State.startSequence, State.unspecifyRegisters, State.setPc, State.read16_snd, h, hc]

/-- Where the start sequence continues: at the address that the vector holds (R330). -/
theorem State.startSequence_pc {s : State}
    (h1 : s.kindAt resetVector = .ram ∨ s.kindAt resetVector = .rom)
    (h2 : s.kindAt (resetVector + 1) = .ram ∨ s.kindAt (resetVector + 1) = .rom) :
    s.startSequence.pc = wordOf (s.byteAt (resetVector + 1)) (s.byteAt resetVector) := by
  obtain ⟨b, h, _⟩ := s.startReads_only_bus
  have e : (s.startReads.read16 resetVector).1 =
      wordOf (s.byteAt (resetVector + 1)) (s.byteAt resetVector) := by
    rw [h]
    exact State.read16_value (s := { s with bus := b }) h1 h2
  exact e

/-- The six flags that go through a pushed P come back as they were; B is not taken from the byte
(R250, R257). -/
theorem restoreP_pByte (bit5 : Bool) (p q : Status) :
    restoreP (pByte bit5 p) q = { p with b := q.b } := by
  obtain ⟨n, v, b, d, i, z, c⟩ := p
  cases n <;> cases v <;> cases b <;> cases d <;> cases i <;> cases z <;> cases c <;>
    cases bit5 <;> rfl

/-! ### Classes of instructions -/

/-- What the first step of a one-byte instruction does. -/
theorem State.implied_eq (s : State) :
    s.implied = { s with pc := s.pc + 1, bus := (s.touch (s.pc + 1)).bus } := rfl

/-- A relative branch changes PC and the record of the bus. -/
theorem State.branch_eq (s : State) (cond : Bool) (r : Byte) :
    s.branch cond r =
      { s with
        pc := if cond = true then branchTarget (s.pc + 2) r else s.pc + 2
        bus := (s.branch cond r).bus } := by
  unfold State.branch
  dsimp only
  split
  · split <;> rfl
  · rfl

/-- The branch of a bit test changes PC and the record of the bus. -/
theorem State.bitBranch_eq (s : State) (cond : Bool) (len : Nat) (r : Byte) :
    s.bitBranch cond len r =
      { s with
        pc := if cond = true then branchTarget (s.pc + BitVec.ofNat 16 len) r
          else s.pc + BitVec.ofNat 16 len
        bus := (s.bitBranch cond len r).bus } := by
  unfold State.bitBranch
  dsimp only
  split
  · split <;> rfl
  · rfl

/-- A store: one byte at the effective address, PC past the instruction. -/
theorem State.storeTo_eq (s : State) (m : Mode) (v : Byte) :
    s.storeTo m v =
      { s with
        mem := memAfterWrite (s.kindAt (s.resolve .write m).1) (s.resolve .write m).1 v s.mem
        pc := s.pc + BitVec.ofNat 16 (modeLength m)
        bus := (s.storeTo m v).bus } := by
  obtain ⟨b, hb⟩ := s.resolve_only_bus .write m
  simp only [State.storeTo, State.write, State.advance, State.setPc, State.kindAt, hb]

/-- A read/modify/write: one byte at the effective address, the flags, PC past the instruction. -/
theorem State.modify_eq (s : State) (m : Mode) (f : Byte → Status → Byte × Status) :
    s.modify m f =
      { s with
        mem := memAfterWrite (s.kindAt (s.resolve .write m).1) (s.resolve .write m).1
          (f ((s.resolve .write m).2.peek (s.resolve .write m).1) s.p).1 s.mem
        p := (f ((s.resolve .write m).2.peek (s.resolve .write m).1) s.p).2
        pc := s.pc + BitVec.ofNat 16 (modeLength m)
        bus := (s.modify m f).bus } := by
  obtain ⟨b, hb⟩ := s.resolve_only_bus .write m
  simp only [State.modify, State.modifyAt, State.write, State.touch, State.setP, State.advance,
    State.setPc, State.kindAt, State.peek, hb]

end Sys2Proof.Machine
end

