-- ==== Sys2Proof/Laws/Fields.lean ====
section
/-! SUPPORT. The fields that each composite operation leaves alone, and those it writes, as
rewriting rules, so that no proof unfolds the operation. -/

namespace Sys2Proof.Machine

/-! ### `implied` -/

@[simp] theorem State.implied_a (s : State) :
    (s.implied).a = s.a := rfl

@[simp] theorem State.implied_x (s : State) :
    (s.implied).x = s.x := rfl

@[simp] theorem State.implied_y (s : State) :
    (s.implied).y = s.y := rfl

@[simp] theorem State.implied_sp (s : State) :
    (s.implied).sp = s.sp := rfl

@[simp] theorem State.implied_p (s : State) :
    (s.implied).p = s.p := rfl

@[simp] theorem State.implied_pc (s : State) :
    (s.implied).pc = s.pc + 1 := rfl

@[simp] theorem State.implied_w (s : State) :
    (s.implied).w = s.w := rfl

@[simp] theorem State.implied_ireg (s : State) :
    (s.implied).ireg = s.ireg := rfl

@[simp] theorem State.implied_mem (s : State) :
    (s.implied).mem = s.mem := rfl

@[simp] theorem State.implied_resetPending (s : State) :
    (s.implied).resetPending = s.resetPending := rfl

@[simp] theorem State.implied_nmiPending (s : State) :
    (s.implied).nmiPending = s.nmiPending := rfl

@[simp] theorem State.implied_irqs (s : State) :
    (s.implied).irqs = s.irqs := rfl

@[simp] theorem State.implied_params (s : State) :
    (s.implied).params = s.params := rfl

/-! ### `push16` -/

@[simp] theorem State.push16_a (s : State) (v : Word) :
    (s.push16 v).a = s.a := rfl

@[simp] theorem State.push16_x (s : State) (v : Word) :
    (s.push16 v).x = s.x := rfl

@[simp] theorem State.push16_y (s : State) (v : Word) :
    (s.push16 v).y = s.y := rfl

@[simp] theorem State.push16_sp (s : State) (v : Word) :
    (s.push16 v).sp = s.sp - 1 - 1 := rfl

@[simp] theorem State.push16_p (s : State) (v : Word) :
    (s.push16 v).p = s.p := rfl

@[simp] theorem State.push16_pc (s : State) (v : Word) :
    (s.push16 v).pc = s.pc := rfl

@[simp] theorem State.push16_w (s : State) (v : Word) :
    (s.push16 v).w = s.w := rfl

@[simp] theorem State.push16_ireg (s : State) (v : Word) :
    (s.push16 v).ireg = s.ireg := rfl

@[simp] theorem State.push16_resetPending (s : State) (v : Word) :
    (s.push16 v).resetPending = s.resetPending := rfl

@[simp] theorem State.push16_nmiPending (s : State) (v : Word) :
    (s.push16 v).nmiPending = s.nmiPending := rfl

@[simp] theorem State.push16_irqs (s : State) (v : Word) :
    (s.push16 v).irqs = s.irqs := rfl

@[simp] theorem State.push16_params (s : State) (v : Word) :
    (s.push16 v).params = s.params := rfl

/-! ### `pull16` -/

@[simp] theorem State.pull16_a (s : State) :
    (s.pull16.2).a = s.a := by
  obtain ⟨b, h, _⟩ := s.pull16_only_sp_bus
  rw [h]

@[simp] theorem State.pull16_x (s : State) :
    (s.pull16.2).x = s.x := by
  obtain ⟨b, h, _⟩ := s.pull16_only_sp_bus
  rw [h]

@[simp] theorem State.pull16_y (s : State) :
    (s.pull16.2).y = s.y := by
  obtain ⟨b, h, _⟩ := s.pull16_only_sp_bus
  rw [h]

@[simp] theorem State.pull16_sp (s : State) :
    (s.pull16.2).sp = s.sp + 1 + 1 := by
  obtain ⟨b, h, _⟩ := s.pull16_only_sp_bus
  rw [h]

@[simp] theorem State.pull16_p (s : State) :
    (s.pull16.2).p = s.p := by
  obtain ⟨b, h, _⟩ := s.pull16_only_sp_bus
  rw [h]

@[simp] theorem State.pull16_pc (s : State) :
    (s.pull16.2).pc = s.pc := by
  obtain ⟨b, h, _⟩ := s.pull16_only_sp_bus
  rw [h]

@[simp] theorem State.pull16_w (s : State) :
    (s.pull16.2).w = s.w := by
  obtain ⟨b, h, _⟩ := s.pull16_only_sp_bus
  rw [h]

@[simp] theorem State.pull16_ireg (s : State) :
    (s.pull16.2).ireg = s.ireg := by
  obtain ⟨b, h, _⟩ := s.pull16_only_sp_bus
  rw [h]

@[simp] theorem State.pull16_mem (s : State) :
    (s.pull16.2).mem = s.mem := by
  obtain ⟨b, h, _⟩ := s.pull16_only_sp_bus
  rw [h]

@[simp] theorem State.pull16_resetPending (s : State) :
    (s.pull16.2).resetPending = s.resetPending := by
  obtain ⟨b, h, _⟩ := s.pull16_only_sp_bus
  rw [h]

@[simp] theorem State.pull16_nmiPending (s : State) :
    (s.pull16.2).nmiPending = s.nmiPending := by
  obtain ⟨b, h, _⟩ := s.pull16_only_sp_bus
  rw [h]

@[simp] theorem State.pull16_irqs (s : State) :
    (s.pull16.2).irqs = s.irqs := by
  obtain ⟨b, h, _⟩ := s.pull16_only_sp_bus
  rw [h]

@[simp] theorem State.pull16_params (s : State) :
    (s.pull16.2).params = s.params := by
  obtain ⟨b, h, _⟩ := s.pull16_only_sp_bus
  rw [h]

/-! ### `storeTo` -/

@[simp] theorem State.storeTo_a (s : State) (m : Mode) (v : Byte) :
    (s.storeTo m v).a = s.a := by
  rw [State.storeTo_eq]

@[simp] theorem State.storeTo_x (s : State) (m : Mode) (v : Byte) :
    (s.storeTo m v).x = s.x := by
  rw [State.storeTo_eq]

@[simp] theorem State.storeTo_y (s : State) (m : Mode) (v : Byte) :
    (s.storeTo m v).y = s.y := by
  rw [State.storeTo_eq]

@[simp] theorem State.storeTo_sp (s : State) (m : Mode) (v : Byte) :
    (s.storeTo m v).sp = s.sp := by
  rw [State.storeTo_eq]

@[simp] theorem State.storeTo_p (s : State) (m : Mode) (v : Byte) :
    (s.storeTo m v).p = s.p := by
  rw [State.storeTo_eq]

@[simp] theorem State.storeTo_pc (s : State) (m : Mode) (v : Byte) :
    (s.storeTo m v).pc = s.pc + BitVec.ofNat 16 (modeLength m) := by
  rw [State.storeTo_eq]

@[simp] theorem State.storeTo_w (s : State) (m : Mode) (v : Byte) :
    (s.storeTo m v).w = s.w := by
  rw [State.storeTo_eq]

@[simp] theorem State.storeTo_ireg (s : State) (m : Mode) (v : Byte) :
    (s.storeTo m v).ireg = s.ireg := by
  rw [State.storeTo_eq]

@[simp] theorem State.storeTo_resetPending (s : State) (m : Mode) (v : Byte) :
    (s.storeTo m v).resetPending = s.resetPending := by
  rw [State.storeTo_eq]

@[simp] theorem State.storeTo_nmiPending (s : State) (m : Mode) (v : Byte) :
    (s.storeTo m v).nmiPending = s.nmiPending := by
  rw [State.storeTo_eq]

@[simp] theorem State.storeTo_irqs (s : State) (m : Mode) (v : Byte) :
    (s.storeTo m v).irqs = s.irqs := by
  rw [State.storeTo_eq]

@[simp] theorem State.storeTo_params (s : State) (m : Mode) (v : Byte) :
    (s.storeTo m v).params = s.params := by
  rw [State.storeTo_eq]

/-! ### `modify` -/

@[simp] theorem State.modify_a (s : State) (m : Mode) (f : Byte → Status → Byte × Status) :
    (s.modify m f).a = s.a := by
  rw [State.modify_eq]

@[simp] theorem State.modify_x (s : State) (m : Mode) (f : Byte → Status → Byte × Status) :
    (s.modify m f).x = s.x := by
  rw [State.modify_eq]

@[simp] theorem State.modify_y (s : State) (m : Mode) (f : Byte → Status → Byte × Status) :
    (s.modify m f).y = s.y := by
  rw [State.modify_eq]

@[simp] theorem State.modify_sp (s : State) (m : Mode) (f : Byte → Status → Byte × Status) :
    (s.modify m f).sp = s.sp := by
  rw [State.modify_eq]

@[simp] theorem State.modify_pc (s : State) (m : Mode) (f : Byte → Status → Byte × Status) :
    (s.modify m f).pc = s.pc + BitVec.ofNat 16 (modeLength m) := by
  rw [State.modify_eq]

@[simp] theorem State.modify_w (s : State) (m : Mode) (f : Byte → Status → Byte × Status) :
    (s.modify m f).w = s.w := by
  rw [State.modify_eq]

@[simp] theorem State.modify_ireg (s : State) (m : Mode) (f : Byte → Status → Byte × Status) :
    (s.modify m f).ireg = s.ireg := by
  rw [State.modify_eq]

@[simp] theorem State.modify_resetPending (s : State) (m : Mode) (f : Byte → Status → Byte × Status) :
    (s.modify m f).resetPending = s.resetPending := by
  rw [State.modify_eq]

@[simp] theorem State.modify_nmiPending (s : State) (m : Mode) (f : Byte → Status → Byte × Status) :
    (s.modify m f).nmiPending = s.nmiPending := by
  rw [State.modify_eq]

@[simp] theorem State.modify_irqs (s : State) (m : Mode) (f : Byte → Status → Byte × Status) :
    (s.modify m f).irqs = s.irqs := by
  rw [State.modify_eq]

@[simp] theorem State.modify_params (s : State) (m : Mode) (f : Byte → Status → Byte × Status) :
    (s.modify m f).params = s.params := by
  rw [State.modify_eq]

/-! ### `branch` -/

@[simp] theorem State.branch_a (s : State) (cond : Bool) (r : Byte) :
    (s.branch cond r).a = s.a := by
  rw [State.branch_eq]

@[simp] theorem State.branch_x (s : State) (cond : Bool) (r : Byte) :
    (s.branch cond r).x = s.x := by
  rw [State.branch_eq]

@[simp] theorem State.branch_y (s : State) (cond : Bool) (r : Byte) :
    (s.branch cond r).y = s.y := by
  rw [State.branch_eq]

@[simp] theorem State.branch_sp (s : State) (cond : Bool) (r : Byte) :
    (s.branch cond r).sp = s.sp := by
  rw [State.branch_eq]

@[simp] theorem State.branch_p (s : State) (cond : Bool) (r : Byte) :
    (s.branch cond r).p = s.p := by
  rw [State.branch_eq]

@[simp] theorem State.branch_w (s : State) (cond : Bool) (r : Byte) :
    (s.branch cond r).w = s.w := by
  rw [State.branch_eq]

@[simp] theorem State.branch_ireg (s : State) (cond : Bool) (r : Byte) :
    (s.branch cond r).ireg = s.ireg := by
  rw [State.branch_eq]

@[simp] theorem State.branch_mem (s : State) (cond : Bool) (r : Byte) :
    (s.branch cond r).mem = s.mem := by
  rw [State.branch_eq]

@[simp] theorem State.branch_resetPending (s : State) (cond : Bool) (r : Byte) :
    (s.branch cond r).resetPending = s.resetPending := by
  rw [State.branch_eq]

@[simp] theorem State.branch_nmiPending (s : State) (cond : Bool) (r : Byte) :
    (s.branch cond r).nmiPending = s.nmiPending := by
  rw [State.branch_eq]

@[simp] theorem State.branch_irqs (s : State) (cond : Bool) (r : Byte) :
    (s.branch cond r).irqs = s.irqs := by
  rw [State.branch_eq]

@[simp] theorem State.branch_params (s : State) (cond : Bool) (r : Byte) :
    (s.branch cond r).params = s.params := by
  rw [State.branch_eq]

/-! ### `bitBranch` -/

@[simp] theorem State.bitBranch_a (s : State) (cond : Bool) (len : Nat) (r : Byte) :
    (s.bitBranch cond len r).a = s.a := by
  rw [State.bitBranch_eq]

@[simp] theorem State.bitBranch_x (s : State) (cond : Bool) (len : Nat) (r : Byte) :
    (s.bitBranch cond len r).x = s.x := by
  rw [State.bitBranch_eq]

@[simp] theorem State.bitBranch_y (s : State) (cond : Bool) (len : Nat) (r : Byte) :
    (s.bitBranch cond len r).y = s.y := by
  rw [State.bitBranch_eq]

@[simp] theorem State.bitBranch_sp (s : State) (cond : Bool) (len : Nat) (r : Byte) :
    (s.bitBranch cond len r).sp = s.sp := by
  rw [State.bitBranch_eq]

@[simp] theorem State.bitBranch_p (s : State) (cond : Bool) (len : Nat) (r : Byte) :
    (s.bitBranch cond len r).p = s.p := by
  rw [State.bitBranch_eq]

@[simp] theorem State.bitBranch_w (s : State) (cond : Bool) (len : Nat) (r : Byte) :
    (s.bitBranch cond len r).w = s.w := by
  rw [State.bitBranch_eq]

@[simp] theorem State.bitBranch_ireg (s : State) (cond : Bool) (len : Nat) (r : Byte) :
    (s.bitBranch cond len r).ireg = s.ireg := by
  rw [State.bitBranch_eq]

@[simp] theorem State.bitBranch_mem (s : State) (cond : Bool) (len : Nat) (r : Byte) :
    (s.bitBranch cond len r).mem = s.mem := by
  rw [State.bitBranch_eq]

@[simp] theorem State.bitBranch_resetPending (s : State) (cond : Bool) (len : Nat) (r : Byte) :
    (s.bitBranch cond len r).resetPending = s.resetPending := by
  rw [State.bitBranch_eq]

@[simp] theorem State.bitBranch_nmiPending (s : State) (cond : Bool) (len : Nat) (r : Byte) :
    (s.bitBranch cond len r).nmiPending = s.nmiPending := by
  rw [State.bitBranch_eq]

@[simp] theorem State.bitBranch_irqs (s : State) (cond : Bool) (len : Nat) (r : Byte) :
    (s.bitBranch cond len r).irqs = s.irqs := by
  rw [State.bitBranch_eq]

@[simp] theorem State.bitBranch_params (s : State) (cond : Bool) (len : Nat) (r : Byte) :
    (s.bitBranch cond len r).params = s.params := by
  rw [State.bitBranch_eq]

/-! ### `takeException` -/

@[simp] theorem State.takeException_a (s : State) (ret vector : Word) (setB : Bool) :
    (s.takeException ret vector setB).a = s.a := by
  rw [State.takeException_eq]

@[simp] theorem State.takeException_x (s : State) (ret vector : Word) (setB : Bool) :
    (s.takeException ret vector setB).x = s.x := by
  rw [State.takeException_eq]

@[simp] theorem State.takeException_y (s : State) (ret vector : Word) (setB : Bool) :
    (s.takeException ret vector setB).y = s.y := by
  rw [State.takeException_eq]

@[simp] theorem State.takeException_sp (s : State) (ret vector : Word) (setB : Bool) :
    (s.takeException ret vector setB).sp = s.sp - 1 - 1 - 1 := by
  rw [State.takeException_eq]

@[simp] theorem State.takeException_p (s : State) (ret vector : Word) (setB : Bool) :
    (s.takeException ret vector setB).p = { s.p with b := s.p.b || setB, i := true } := by
  rw [State.takeException_eq]

@[simp] theorem State.takeException_w (s : State) (ret vector : Word) (setB : Bool) :
    (s.takeException ret vector setB).w = s.w := by
  rw [State.takeException_eq]

@[simp] theorem State.takeException_ireg (s : State) (ret vector : Word) (setB : Bool) :
    (s.takeException ret vector setB).ireg = s.ireg := by
  rw [State.takeException_eq]

@[simp] theorem State.takeException_resetPending (s : State) (ret vector : Word) (setB : Bool) :
    (s.takeException ret vector setB).resetPending = s.resetPending := by
  rw [State.takeException_eq]

@[simp] theorem State.takeException_nmiPending (s : State) (ret vector : Word) (setB : Bool) :
    (s.takeException ret vector setB).nmiPending = s.nmiPending := by
  rw [State.takeException_eq]

@[simp] theorem State.takeException_irqs (s : State) (ret vector : Word) (setB : Bool) :
    (s.takeException ret vector setB).irqs = s.irqs := by
  rw [State.takeException_eq]

@[simp] theorem State.takeException_params (s : State) (ret vector : Word) (setB : Bool) :
    (s.takeException ret vector setB).params = s.params := by
  rw [State.takeException_eq]

/-! ### `returnFromException` -/

@[simp] theorem State.returnFromException_a (s : State) :
    (s.returnFromException).a = s.a := by
  rw [State.returnFromException_eq]

@[simp] theorem State.returnFromException_x (s : State) :
    (s.returnFromException).x = s.x := by
  rw [State.returnFromException_eq]

@[simp] theorem State.returnFromException_y (s : State) :
    (s.returnFromException).y = s.y := by
  rw [State.returnFromException_eq]

@[simp] theorem State.returnFromException_sp (s : State) :
    (s.returnFromException).sp = s.sp + 1 + 1 + 1 := by
  rw [State.returnFromException_eq]

@[simp] theorem State.returnFromException_p (s : State) :
    (s.returnFromException).p = restoreP s.pull.1 s.p := by
  rw [State.returnFromException_eq]

@[simp] theorem State.returnFromException_w (s : State) :
    (s.returnFromException).w = s.w := by
  rw [State.returnFromException_eq]

@[simp] theorem State.returnFromException_ireg (s : State) :
    (s.returnFromException).ireg = s.ireg := by
  rw [State.returnFromException_eq]

@[simp] theorem State.returnFromException_mem (s : State) :
    (s.returnFromException).mem = s.mem := by
  rw [State.returnFromException_eq]

@[simp] theorem State.returnFromException_resetPending (s : State) :
    (s.returnFromException).resetPending = s.resetPending := by
  rw [State.returnFromException_eq]

@[simp] theorem State.returnFromException_nmiPending (s : State) :
    (s.returnFromException).nmiPending = s.nmiPending := by
  rw [State.returnFromException_eq]

@[simp] theorem State.returnFromException_irqs (s : State) :
    (s.returnFromException).irqs = s.irqs := by
  rw [State.returnFromException_eq]

@[simp] theorem State.returnFromException_params (s : State) :
    (s.returnFromException).params = s.params := by
  rw [State.returnFromException_eq]

/-! ### `read16zp` and `indexed` -/

@[simp] theorem State.read16zp_a (s : State) (n : Byte) :
    (s.read16zp n).2.a = s.a := rfl

@[simp] theorem State.read16zp_x (s : State) (n : Byte) :
    (s.read16zp n).2.x = s.x := rfl

@[simp] theorem State.read16zp_y (s : State) (n : Byte) :
    (s.read16zp n).2.y = s.y := rfl

@[simp] theorem State.read16zp_sp (s : State) (n : Byte) :
    (s.read16zp n).2.sp = s.sp := rfl

@[simp] theorem State.read16zp_p (s : State) (n : Byte) :
    (s.read16zp n).2.p = s.p := rfl

@[simp] theorem State.read16zp_pc (s : State) (n : Byte) :
    (s.read16zp n).2.pc = s.pc := rfl

@[simp] theorem State.read16zp_w (s : State) (n : Byte) :
    (s.read16zp n).2.w = s.w := rfl

@[simp] theorem State.read16zp_ireg (s : State) (n : Byte) :
    (s.read16zp n).2.ireg = s.ireg := rfl

@[simp] theorem State.read16zp_mem (s : State) (n : Byte) :
    (s.read16zp n).2.mem = s.mem := rfl

@[simp] theorem State.read16zp_resetPending (s : State) (n : Byte) :
    (s.read16zp n).2.resetPending = s.resetPending := rfl

@[simp] theorem State.read16zp_nmiPending (s : State) (n : Byte) :
    (s.read16zp n).2.nmiPending = s.nmiPending := rfl

@[simp] theorem State.read16zp_irqs (s : State) (n : Byte) :
    (s.read16zp n).2.irqs = s.irqs := rfl

@[simp] theorem State.read16zp_params (s : State) (n : Byte) :
    (s.read16zp n).2.params = s.params := rfl

@[simp] theorem State.indexed_a (s : State) (k : Access) (base : Word) (index : Byte) :
    (s.indexed k base index).2.a = s.a := by
  obtain ⟨b, h, _⟩ := s.indexed_only_bus k base index
  rw [h]

@[simp] theorem State.indexed_x (s : State) (k : Access) (base : Word) (index : Byte) :
    (s.indexed k base index).2.x = s.x := by
  obtain ⟨b, h, _⟩ := s.indexed_only_bus k base index
  rw [h]

@[simp] theorem State.indexed_y (s : State) (k : Access) (base : Word) (index : Byte) :
    (s.indexed k base index).2.y = s.y := by
  obtain ⟨b, h, _⟩ := s.indexed_only_bus k base index
  rw [h]

@[simp] theorem State.indexed_sp (s : State) (k : Access) (base : Word) (index : Byte) :
    (s.indexed k base index).2.sp = s.sp := by
  obtain ⟨b, h, _⟩ := s.indexed_only_bus k base index
  rw [h]

@[simp] theorem State.indexed_p (s : State) (k : Access) (base : Word) (index : Byte) :
    (s.indexed k base index).2.p = s.p := by
  obtain ⟨b, h, _⟩ := s.indexed_only_bus k base index
  rw [h]

@[simp] theorem State.indexed_pc (s : State) (k : Access) (base : Word) (index : Byte) :
    (s.indexed k base index).2.pc = s.pc := by
  obtain ⟨b, h, _⟩ := s.indexed_only_bus k base index
  rw [h]

@[simp] theorem State.indexed_w (s : State) (k : Access) (base : Word) (index : Byte) :
    (s.indexed k base index).2.w = s.w := by
  obtain ⟨b, h, _⟩ := s.indexed_only_bus k base index
  rw [h]

@[simp] theorem State.indexed_ireg (s : State) (k : Access) (base : Word) (index : Byte) :
    (s.indexed k base index).2.ireg = s.ireg := by
  obtain ⟨b, h, _⟩ := s.indexed_only_bus k base index
  rw [h]

@[simp] theorem State.indexed_mem (s : State) (k : Access) (base : Word) (index : Byte) :
    (s.indexed k base index).2.mem = s.mem := by
  obtain ⟨b, h, _⟩ := s.indexed_only_bus k base index
  rw [h]

@[simp] theorem State.indexed_resetPending (s : State) (k : Access) (base : Word) (index : Byte) :
    (s.indexed k base index).2.resetPending = s.resetPending := by
  obtain ⟨b, h, _⟩ := s.indexed_only_bus k base index
  rw [h]

@[simp] theorem State.indexed_nmiPending (s : State) (k : Access) (base : Word) (index : Byte) :
    (s.indexed k base index).2.nmiPending = s.nmiPending := by
  obtain ⟨b, h, _⟩ := s.indexed_only_bus k base index
  rw [h]

@[simp] theorem State.indexed_irqs (s : State) (k : Access) (base : Word) (index : Byte) :
    (s.indexed k base index).2.irqs = s.irqs := by
  obtain ⟨b, h, _⟩ := s.indexed_only_bus k base index
  rw [h]

@[simp] theorem State.indexed_params (s : State) (k : Access) (base : Word) (index : Byte) :
    (s.indexed k base index).2.params = s.params := by
  obtain ⟨b, h, _⟩ := s.indexed_only_bus k base index
  rw [h]

/-! ### Cycles of the composite accesses (R335) -/

@[simp] theorem State.touchTimes_cycles (n : Nat) (s : State) (a : Word) :
    (State.touchTimes n s a).bus.cycles = s.bus.cycles + n := by
  obtain ⟨b, h, hc⟩ := State.touchTimes_only_bus n s a
  rw [h, hc]

@[simp] theorem State.read16_cycles (s : State) (a : Word) :
    (s.read16 a).2.bus.cycles = s.bus.cycles + 2 := by
  obtain ⟨b, h, hc⟩ := s.read16_only_bus a
  rw [h, hc]

@[simp] theorem State.read16zp_cycles (s : State) (n : Byte) :
    (s.read16zp n).2.bus.cycles = s.bus.cycles + 2 := by
  obtain ⟨b, h, hc⟩ := s.read16zp_only_bus n
  rw [h, hc]

@[simp] theorem State.indexed_cycles (s : State) (k : Access) (base : Word) (index : Byte) :
    (s.indexed k base index).2.bus.cycles =
      s.bus.cycles + (if k = .write ∨ crossesPage base index = true then 1 else 0) := by
  obtain ⟨b, h, hc⟩ := s.indexed_only_bus k base index
  rw [h, hc]

@[simp] theorem State.pull16_cycles (s : State) :
    s.pull16.2.bus.cycles = s.bus.cycles + 2 := by
  obtain ⟨b, h, hc⟩ := s.pull16_only_sp_bus
  rw [h, hc]

/-! ### The memory of stores and of read/modify/write -/

theorem State.storeTo_mem (s : State) (m : Mode) (v : Byte) :
    (s.storeTo m v).mem =
      memAfterWrite (s.kindAt (s.resolve .write m).1) (s.resolve .write m).1 v s.mem := by
  rw [State.storeTo_eq]

theorem State.modify_mem (s : State) (m : Mode) (f : Byte → Status → Byte × Status) :
    (s.modify m f).mem =
      memAfterWrite (s.kindAt (s.resolve .write m).1) (s.resolve .write m).1
        (f ((s.resolve .write m).2.peek (s.resolve .write m).1) s.p).1 s.mem := by
  rw [State.modify_eq]

theorem State.modify_p (s : State) (m : Mode) (f : Byte → Status → Byte × Status) :
    (s.modify m f).p = (f ((s.resolve .write m).2.peek (s.resolve .write m).1) s.p).2 := by
  rw [State.modify_eq]

end Sys2Proof.Machine
end

