-- ==== Sys2Proof/Tests/Slice0.lean ====
section
/-! SUPPORT. The model's own tests: what the checks of `wellFormed` refuse, a word for every
constructor written from the encoding tables of spec/30_encoding.md, one step at a time on the
vectors of spec/95_test_vectors.md (each docstring names its vector, whose values the spec worked
out), and for every statement with hypotheses a state and operands that meet them together. -/

namespace Sys2Proof.Tests

open Sys2Proof Sys2Proof.Machine

/-! ### Helpers -/

/-- The flags that the vectors start with. -/
def clearFlags : Status :=
  { n := false, v := false, b := false, d := false, i := true, z := false, c := false }

/-- Bytes put into a memory one by one. -/
def put : Memory → List (Nat × Byte) → Memory
  | m, [] => m
  | m, (a, v) :: rest => put (Memory.set m a v) rest

/-- An instruction's bytes put at consecutive addresses modulo 65536. -/
def putCode : Memory → Nat → List Byte → Memory
  | m, _, [] => m
  | m, a, v :: rest => putCode (Memory.set m (a % 65536) v) (a + 1) rest

/-- The start state of the vectors with these bytes at `pc` and these in memory. -/
def at_ (pc : Nat) (code : List Byte) (bytes : List (Nat × Byte)) : State :=
  { State.reset with
    sp := 0xFF, p := clearFlags, pc := BitVec.ofNat 16 pc, mem := put (putCode [] pc code) bytes }

/-- One step gives a next state with this property. -/
def after (s : State) (q : State → Bool) : Bool :=
  match step s with
  | .next t => q t
  | .fault _ => false
  | .refused _ => false

/-- The instruction that a whole list of bytes is. -/
def whole (bytes : List Byte) : Option Instr :=
  match decode bytes with
  | .instr i [] => some i
  | .instr _ (_ :: _) => none
  | .unusedOpcode _ => none
  | .truncated => none

/-- A map with every kind of region: memory below 0x3000, a device window of 256 bytes, nothing, and
read-only memory from 0x8000 up. -/
def mapped (s : State) : State :=
  { s with
    params := { s.params with
      memMap := [{ base := 0, size := 0x3000, kind := .ram },
        { base := 0x3000, size := 0x100, kind := .io },
        { base := 0x8000, size := 0x8000, kind := .rom }] } }

/-- Two maskable sources. -/
def twoSources (first second : Bool) : List IrqLine :=
  [{ name := "IRQ0", vector := 0xFFFA, pending := first },
   { name := "IRQ1", vector := 0xFFF8, pending := second }]

/-! ### What `wellFormed` refuses (R70, R71, R76, R77) -/

theorem test_refuses_no_bytes : wellFormed [] = false := by decide

theorem test_refuses_unused_opcode : wellFormed [0x04, 0x00] = false := by decide

theorem test_refuses_truncated : wellFormed [0xA9] = false := by decide

theorem test_refuses_overlong : wellFormed [0xEA, 0x00] = false := by decide

theorem test_accepts_the_longest : wellFormed [0xE2, 0x00, 0x30, 0x81, 0x10] = true := by decide

set_option maxRecDepth 8000 in
/-- The counts of R77: 63 op codes of one byte, 95 of two, 67 of three, 2 of four, 2 of five, 27
unused. -/
theorem test_length_counts :
    [1, 2, 3, 4, 5, 0].map (fun n => opcodeLengths.count n) = [63, 95, 67, 2, 2, 27] := by rfl

/-! ### A word for every constructor (R71 to R74): operand bytes 0x34, 0x12 are the address 0x1234
-/

/-- Loads (R130 to R132). -/
theorem test_decode_loads :
    List.map whole
      [[0xA1, 0x81], [0xA5, 0x81], [0xA9, 0x81], [0xAD, 0x34, 0x12], [0xB1, 0x81], [0xB5, 0x81],
        [0xB9, 0x34, 0x12], [0xBD, 0x34, 0x12], [0xA2, 0x81], [0xA6, 0x81], [0xAE, 0x34, 0x12],
        [0xB6, 0x81], [0xBE, 0x34, 0x12], [0xA0, 0x81], [0xA4, 0x81], [0xAC, 0x34, 0x12],
        [0xB4, 0x81], [0xBC, 0x34, 0x12]] =
      List.map some
      [.ldaInd 0x81, .ldaZp 0x81, .ldaImm 0x81, .ldaAbs 0x1234, .ldaIndX 0x81, .ldaZpX 0x81,
        .ldaAbsY 0x1234, .ldaAbsX 0x1234, .ldxImm 0x81, .ldxZp 0x81, .ldxAbs 0x1234, .ldxZpY 0x81,
        .ldxAbsY 0x1234, .ldyImm 0x81, .ldyZp 0x81, .ldyAbs 0x1234, .ldyZpX 0x81, .ldyAbsX 0x1234] := by
  decide

/-- Stores and exchange (R133 to R137). -/
theorem test_decode_stores :
    List.map whole
      [[0x81, 0x81], [0x85, 0x81], [0x8D, 0x34, 0x12], [0x91, 0x81], [0x95, 0x81],
        [0x99, 0x34, 0x12], [0x9D, 0x34, 0x12], [0x86, 0x81], [0x8E, 0x34, 0x12], [0x96, 0x81],
        [0x84, 0x81], [0x8C, 0x34, 0x12], [0x94, 0x81], [0xB2, 0x55, 0x90], [0xD4, 0x81]] =
      List.map some
      [.staInd 0x81, .staZp 0x81, .staAbs 0x1234, .staIndX 0x81, .staZpX 0x81, .staAbsY 0x1234,
        .staAbsX 0x1234, .stxZp 0x81, .stxAbs 0x1234, .stxZpY 0x81, .styZp 0x81, .styAbs 0x1234,
        .styZpX 0x81, .sti 0x55 0x90, .exc 0x81] := by
  decide

/-- Transfers and flags (R138 to R143, R280 to R287). -/
theorem test_decode_transfers_and_flags :
    List.map whole
      [[0xAA], [0xA8], [0x8A], [0x98], [0xBA], [0x9A], [0x18], [0xD8], [0x58], [0xB8], [0x38],
        [0xF8], [0x78], [0xEA]] =
      List.map some
      [.tax, .tay, .txa, .tya, .tsx, .txs, .clc, .cld, .cli, .clv, .sec, .sed, .sei, .nop] := by
  decide

/-- Add and subtract (R162 to R166). -/
theorem test_decode_add_subtract :
    List.map whole
      [[0x61, 0x81], [0x65, 0x81], [0x69, 0x81], [0x6D, 0x34, 0x12], [0x71, 0x81], [0x75, 0x81],
        [0x79, 0x34, 0x12], [0x7D, 0x34, 0x12], [0x64, 0x81], [0x74, 0x81], [0x89, 0x81],
        [0xE1, 0x81], [0xE5, 0x81], [0xE9, 0x81], [0xED, 0x34, 0x12], [0xF1, 0x81], [0xF5, 0x81],
        [0xF9, 0x34, 0x12], [0xFD, 0x34, 0x12]] =
      List.map some
      [.adcInd 0x81, .adcZp 0x81, .adcImm 0x81, .adcAbs 0x1234, .adcIndX 0x81, .adcZpX 0x81,
        .adcAbsY 0x1234, .adcAbsX 0x1234, .addZp 0x81, .addZpX 0x81, .addImm 0x81, .sbcInd 0x81,
        .sbcZp 0x81, .sbcImm 0x81, .sbcAbs 0x1234, .sbcIndX 0x81, .sbcZpX 0x81, .sbcAbsY 0x1234,
        .sbcAbsX 0x1234] := by
  decide

/-- Logic (R167 to R170). -/
theorem test_decode_logic :
    List.map whole
      [[0x21, 0x81], [0x25, 0x81], [0x29, 0x81], [0x2D, 0x34, 0x12], [0x31, 0x81], [0x35, 0x81],
        [0x39, 0x34, 0x12], [0x3D, 0x34, 0x12], [0x01, 0x81], [0x05, 0x81], [0x09, 0x81],
        [0x0D, 0x34, 0x12], [0x11, 0x81], [0x15, 0x81], [0x19, 0x34, 0x12], [0x1D, 0x34, 0x12],
        [0x41, 0x81], [0x45, 0x81], [0x49, 0x81], [0x4D, 0x34, 0x12], [0x51, 0x81], [0x55, 0x81],
        [0x59, 0x34, 0x12], [0x5D, 0x34, 0x12], [0x24, 0x81], [0x2C, 0x34, 0x12]] =
      List.map some
      [.andInd 0x81, .andZp 0x81, .andImm 0x81, .andAbs 0x1234, .andIndX 0x81, .andZpX 0x81,
        .andAbsY 0x1234, .andAbsX 0x1234, .oraInd 0x81, .oraZp 0x81, .oraImm 0x81, .oraAbs 0x1234,
        .oraIndX 0x81, .oraZpX 0x81, .oraAbsY 0x1234, .oraAbsX 0x1234, .eorInd 0x81, .eorZp 0x81,
        .eorImm 0x81, .eorAbs 0x1234, .eorIndX 0x81, .eorZpX 0x81, .eorAbsY 0x1234,
        .eorAbsX 0x1234, .bitZp 0x81, .bitAbs 0x1234] := by
  decide

/-- Compare (R172 to R174). -/
theorem test_decode_compare :
    List.map whole
      [[0xC1, 0x81], [0xC5, 0x81], [0xC9, 0x81], [0xCD, 0x34, 0x12], [0xD1, 0x81], [0xD5, 0x81],
        [0xD9, 0x34, 0x12], [0xDD, 0x34, 0x12], [0xE0, 0x81], [0xE4, 0x81], [0xEC, 0x34, 0x12],
        [0xC0, 0x81], [0xC4, 0x81], [0xCC, 0x34, 0x12]] =
      List.map some
      [.cmpInd 0x81, .cmpZp 0x81, .cmpImm 0x81, .cmpAbs 0x1234, .cmpIndX 0x81, .cmpZpX 0x81,
        .cmpAbsY 0x1234, .cmpAbsX 0x1234, .cpxImm 0x81, .cpxZp 0x81, .cpxAbs 0x1234, .cpyImm 0x81,
        .cpyZp 0x81, .cpyAbs 0x1234] := by
  decide

/-- Increment, decrement, NEG and LAB (R175 to R182). -/
theorem test_decode_increment :
    List.map whole
      [[0xE6, 0x81], [0xEE, 0x34, 0x12], [0xF6, 0x81], [0xFE, 0x34, 0x12], [0xC6, 0x81],
        [0xCE, 0x34, 0x12], [0xD6, 0x81], [0xDE, 0x34, 0x12], [0xE8], [0xC8], [0xCA], [0x88],
        [0x1A], [0x13]] =
      List.map some
      [.incZp 0x81, .incAbs 0x1234, .incZpX 0x81, .incAbsX 0x1234, .decZp 0x81, .decAbs 0x1234,
        .decZpX 0x81, .decAbsX 0x1234, .inx, .iny, .dex, .dey, .negA, .labA] := by
  decide

/-- Shifts (R190 to R194). -/
theorem test_decode_shifts :
    List.map whole
      [[0x06, 0x81], [0x0A], [0x0E, 0x34, 0x12], [0x16, 0x81], [0x1E, 0x34, 0x12], [0x46, 0x81],
        [0x4A], [0x4E, 0x34, 0x12], [0x56, 0x81], [0x5E, 0x34, 0x12], [0x26, 0x81], [0x2A],
        [0x2E, 0x34, 0x12], [0x36, 0x81], [0x3E, 0x34, 0x12], [0x66, 0x81], [0x6A],
        [0x6E, 0x34, 0x12], [0x76, 0x81], [0x7E, 0x34, 0x12], [0x3A]] =
      List.map some
      [.aslZp 0x81, .aslA, .aslAbs 0x1234, .aslZpX 0x81, .aslAbsX 0x1234, .lsrZp 0x81, .lsrA,
        .lsrAbs 0x1234, .lsrZpX 0x81, .lsrAbsX 0x1234, .rolZp 0x81, .rolA, .rolAbs 0x1234,
        .rolZpX 0x81, .rolAbsX 0x1234, .rorZp 0x81, .rorA, .rorAbs 0x1234, .rorZpX 0x81,
        .rorAbsX 0x1234, .asrA] := by
  decide

/-- Multiply and W (R195 to R200). -/
theorem test_decode_multiply :
    List.map whole
      [[0x02], [0x12], [0x42], [0x62], [0x72], [0x52]] =
      List.map some
      [.mpy, .mpa, .rnd, .taw, .twa, .clw] := by
  decide

/-- Set and reset bits (R210 to R213). -/
theorem test_decode_set_reset_bits :
    List.map whole
      [[0x07, 0x81], [0x17, 0x81], [0x27, 0x81], [0x37, 0x81], [0x47, 0x81], [0x57, 0x81],
        [0x67, 0x81], [0x77, 0x81], [0x87, 0x81], [0x97, 0x81], [0xA7, 0x81], [0xB7, 0x81],
        [0xC7, 0x81], [0xD7, 0x81], [0xE7, 0x81], [0xF7, 0x81], [0xC2, 0x81, 0x34, 0x12],
        [0xD2, 0x81, 0x34, 0x12]] =
      List.map some
      [.rmb0 0x81, .rmb1 0x81, .rmb2 0x81, .rmb3 0x81, .rmb4 0x81, .rmb5 0x81, .rmb6 0x81,
        .rmb7 0x81, .smb0 0x81, .smb1 0x81, .smb2 0x81, .smb3 0x81, .smb4 0x81, .smb5 0x81,
        .smb6 0x81, .smb7 0x81, .rba 0x81 0x1234, .sba 0x81 0x1234] := by
  decide

/-- Branches on bits (R214 to R217). -/
theorem test_decode_bit_branches :
    List.map whole
      [[0x0F, 0x55, 0x90], [0x1F, 0x55, 0x90], [0x2F, 0x55, 0x90], [0x3F, 0x55, 0x90],
        [0x4F, 0x55, 0x90], [0x5F, 0x55, 0x90], [0x6F, 0x55, 0x90], [0x7F, 0x55, 0x90],
        [0x8F, 0x55, 0x90], [0x9F, 0x55, 0x90], [0xAF, 0x55, 0x90], [0xBF, 0x55, 0x90],
        [0xCF, 0x55, 0x90], [0xDF, 0x55, 0x90], [0xEF, 0x55, 0x90], [0xFF, 0x55, 0x90],
        [0xE2, 0x34, 0x12, 0x81, 0x90], [0xF2, 0x34, 0x12, 0x81, 0x90]] =
      List.map some
      [.bbr0 0x55 0x90, .bbr1 0x55 0x90, .bbr2 0x55 0x90, .bbr3 0x55 0x90, .bbr4 0x55 0x90,
        .bbr5 0x55 0x90, .bbr6 0x55 0x90, .bbr7 0x55 0x90, .bbs0 0x55 0x90, .bbs1 0x55 0x90,
        .bbs2 0x55 0x90, .bbs3 0x55 0x90, .bbs4 0x55 0x90, .bbs5 0x55 0x90, .bbs6 0x55 0x90,
        .bbs7 0x55 0x90, .bar 0x1234 0x81 0x90, .bas 0x1234 0x81 0x90] := by
  decide

/-- Branches (R221 to R229). -/
theorem test_decode_branches :
    List.map whole
      [[0x90, 0x81], [0xB0, 0x81], [0xF0, 0x81], [0x30, 0x81], [0xD0, 0x81], [0x10, 0x81],
        [0x50, 0x81], [0x70, 0x81], [0x80, 0x81]] =
      List.map some
      [.bcc 0x81, .bcs 0x81, .beq 0x81, .bmi 0x81, .bne 0x81, .bpl 0x81, .bvc 0x81, .bvs 0x81,
        .bra 0x81] := by
  decide

/-- Jumps, calls and returns (R230 to R237). -/
theorem test_decode_jumps :
    List.map whole
      [[0x4C, 0x34, 0x12], [0x6C, 0x34, 0x12], [0x7C, 0x34, 0x12], [0x20, 0x34, 0x12], [0x0B],
        [0x1B], [0x2B], [0x3B], [0x4B], [0x5B], [0x6B], [0x7B], [0x60], [0x40], [0x00]] =
      List.map some
      [.jmpAbs 0x1234, .jmpInd 0x1234, .jmpIndX 0x1234, .jsr 0x1234, .jsb0, .jsb1, .jsb2, .jsb3,
        .jsb4, .jsb5, .jsb6, .jsb7, .rts, .rti, .brk] := by
  decide

/-- Stack (R251 to R266). -/
theorem test_decode_stack :
    List.map whole
      [[0x48], [0x08], [0xDA], [0x5A], [0x23], [0xCB], [0x22], [0x68], [0x28], [0xFA], [0x7A],
        [0x33], [0xDB], [0x32], [0xFB]] =
      List.map some
      [.pha, .php, .phx, .phy, .phw, .phi, .psh, .pla, .plp, .plx, .ply, .plw, .pli, .pul, .pia] := by
  decide

/-- Threaded code (R270 to R276). -/
theorem test_decode_threaded :
    List.map whole
      [[0x8B], [0x9B], [0xEB], [0xAB], [0xBB], [0x0C, 0x34, 0x12], [0x03]] =
      List.map some
      [.nxt, .lii, .lai, .lan, .ini, .jpi 0x1234, .tip] := by
  decide

/-- A table word: bit 0 is the least significant bit of the op code byte. -/
theorem test_table_word : decodeTableWord 24 0x1234AD = some (.ldaAbs 0x1234) := by decide

/-- A table word without its operand bits: the bits above are 0. -/
theorem test_table_word_short : decodeTableWord 8 0xE2 = some (.bar 0 0 0) := by decide

theorem test_decodes_unused : decode [0x04, 0x12] = .unusedOpcode 0x04 := by decide

theorem test_decodes_truncated : decode [0xAD, 0x34] = .truncated := by decide

/-! ### One step of each instruction -/

/-- T41.3: `LDA ($FF)`. -/
theorem test_lda_pointer_wraps_in_page_zero :
    after { at_ 0x2200 [0xA1, 0xFF] [(0x0000, 0x12), (0x00FF, 0x34), (0x1234, 0x5A)] with
        x := 0x07 }
      (fun t => t.a == 0x5A && t.pc == 0x2202) = true := by decide

/-- T41.4: `LDA ($40),X`. -/
theorem test_lda_indirect_indexed :
    after { at_ 0x2200 [0xB1, 0x40] [(0x0040, 0xF0), (0x0041, 0x12), (0x1310, 0x01)] with
        x := 0x20, y := 0x99 }
      (fun t => t.a == 0x01 && t.pc == 0x2202) = true := by decide

/-- T41.7: `LDX $80,Y`. -/
theorem test_ldx_zero_page_y :
    after { at_ 0x2200 [0xB6, 0x80] [(0x0081, 0x00)] with y := 0x01, x := 0x33 }
      (fun t => t.x == 0x00 && t.pc == 0x2202 && t.p.z) = true := by decide

/-- T41.9: `LDY $30FF,X`. -/
theorem test_ldy_absolute_x_crosses_page :
    after { at_ 0x2200 [0xBC, 0xFF, 0x30] [(0x3100, 0x01)] with x := 0x01 }
      (fun t => t.y == 0x01 && t.pc == 0x2203) = true := by decide

/-- T41.12: `STA ($40),X`. -/
theorem test_sta_indirect_indexed :
    after { at_ 0x2200 [0x91, 0x40] [(0x0040, 0xFE), (0x0041, 0x02)] with a := 0xAA, x := 0x05 }
      (fun t => t.pc == 0x2202 && t.byteAt 0x0303 == 0xAA) = true := by decide

/-- T41.14: `STX $10,Y`. -/
theorem test_stx_zero_page_y :
    after { at_ 0x2200 [0x96, 0x10] [] with x := 0x01, y := 0x02 }
      (fun t => t.pc == 0x2202 && t.byteAt 0x0012 == 0x01) = true := by decide

/-- T41.15: `STY $FF,X`. -/
theorem test_sty_zero_page_x_wraps :
    after { at_ 0x2200 [0x94, 0xFF] [] with y := 0xAA, x := 0x02 }
      (fun t => t.pc == 0x2202 && t.byteAt 0x0001 == 0xAA) = true := by decide

/-- T41.16: `STI #$FF,$00`. -/
theorem test_sti :
    after { at_ 0x2200 [0xB2, 0xFF, 0x00] [] with a := 0x01 }
      (fun t => t.pc == 0x2203 && t.byteAt 0x0000 == 0xFF) = true := by decide

/-- T41.18: `EXC $F0,X`. -/
theorem test_exc :
    after { at_ 0x2200 [0xD4, 0xF0] [(0x0001, 0x7F)] with
        a := 0x80, x := 0x11, p := { clearFlags with z := true } }
      (fun t => t.a == 0x7F && t.pc == 0x2202 && t.byteAt 0x0001 == 0x80) = true := by decide

/-- T41.19: `TAX`. -/
theorem test_tax_zero :
    after { at_ 0x2200 [0xAA] [] with a := 0x00, x := 0x44 }
      (fun t => t.x == 0x00 && t.pc == 0x2201 && t.p.z) = true := by decide

/-- T41.20: `TAY`. -/
theorem test_tay_negative :
    after { at_ 0x2200 [0xA8] [] with a := 0x90, y := 0x00 }
      (fun t => t.y == 0x90 && t.pc == 0x2201 && t.p.n) = true := by decide

/-- T41.21: `TXA`. -/
theorem test_txa :
    after { at_ 0x2200 [0x8A] [] with x := 0x7F, a := 0x80, p := { clearFlags with n := true } }
      (fun t => t.a == 0x7F && t.pc == 0x2201 && !t.p.n) = true := by decide

/-- T41.22: `TYA`. -/
theorem test_tya :
    after { at_ 0x2200 [0x98] [] with y := 0xFF, a := 0x00, p := { clearFlags with z := true } }
      (fun t => t.a == 0xFF && t.pc == 0x2201 && t.p.n && !t.p.z) = true := by decide

/-- T41.23: `TSX`. -/
theorem test_tsx :
    after { at_ 0x2200 [0xBA] [] with sp := 0xFD, x := 0x00 }
      (fun t => t.x == 0xFD && t.pc == 0x2201 && t.p.n) = true := by decide

/-- T41.24: `TXS`. -/
theorem test_txs_leaves_flags :
    after { at_ 0x2200 [0x9A] [] with
        x := 0x00, sp := 0x80, p := { clearFlags with n := true } }
      (fun t => t.sp == 0x00 && t.pc == 0x2201) = true := by decide

/-- T42.3: `ADC #$80`. -/
theorem test_adc_overflow_and_carry :
    after { at_ 0x2200 [0x69, 0x80] [] with a := 0x80 }
      (fun t => t.a == 0x00 && t.pc == 0x2202 && t.p.v && t.p.z && t.p.c) = true := by decide

/-- T42.6: `ADC #$46`. -/
theorem test_adc_decimal :
    after { at_ 0x2200 [0x69, 0x46] [] with
        a := 0x58, p := { clearFlags with c := true, d := true } }
      (fun t => t.a == 0x05 && t.pc == 0x2202) = true := by decide

/-- T42.10: `ADD $10,X`. -/
theorem test_add_ignores_carry :
    after { at_ 0x2200 [0x74, 0x10] [(0x0011, 0x40)] with
        a := 0x40, x := 0x01, p := { clearFlags with c := true } }
      (fun t => t.a == 0x80 && t.pc == 0x2202 && t.p.n && t.p.v && !t.p.c) = true := by decide

/-- T42.11: `ADD $10`. -/
theorem test_add_decimal :
    after { at_ 0x2200 [0x64, 0x10] [(0x0010, 0x01)] with
        a := 0x19, p := { clearFlags with c := true, d := true } }
      (fun t => t.a == 0x20 && t.pc == 0x2202 && !t.p.c) = true := by decide

/-- T42.13: `SBC #$01`. -/
theorem test_sbc_overflow :
    after { at_ 0x2200 [0xE9, 0x01] [] with a := 0x80, p := { clearFlags with c := true } }
      (fun t => t.a == 0x7F && t.pc == 0x2202 && t.p.v) = true := by decide

/-- T42.17: `SBC #$01`. -/
theorem test_sbc_decimal_borrow :
    after { at_ 0x2200 [0xE9, 0x01] [] with
        a := 0x00, p := { clearFlags with c := true, d := true } }
      (fun t => t.a == 0x99 && t.pc == 0x2202 && t.p.n && !t.p.c) = true := by decide

/-- T42.22: `AND ($20)`. -/
theorem test_and_indirect :
    after { at_ 0x2200 [0x21, 0x20] [(0x0020, 0x00), (0x0021, 0x30), (0x3000, 0x80)] with
        a := 0xFF }
      (fun t => t.a == 0x80 && t.pc == 0x2202 && t.p.n) = true := by decide

/-- T42.23: `ORA #$80`. -/
theorem test_ora_negative :
    after { at_ 0x2200 [0x09, 0x80] [] with a := 0x01 }
      (fun t => t.a == 0x81 && t.pc == 0x2202 && t.p.n) = true := by decide

/-- T42.26: `EOR #$AA`. -/
theorem test_eor_zero :
    after { at_ 0x2200 [0x49, 0xAA] [] with a := 0xAA }
      (fun t => t.a == 0x00 && t.pc == 0x2202 && t.p.z) = true := by decide

/-- T42.28: `BIT $3000`. -/
theorem test_bit_clears_n_and_v :
    after { at_ 0x2200 [0x2C, 0x00, 0x30] [(0x3000, 0x3F)] with
        a := 0xFF, p := { clearFlags with n := true, v := true, z := true, c := true } }
      (fun t => t.pc == 0x2203 && !t.p.n && !t.p.v && !t.p.z) = true := by decide

/-- T42.30: `CMP #$20`. -/
theorem test_cmp_borrow :
    after { at_ 0x2200 [0xC9, 0x20] [] with
        a := 0x10, p := { clearFlags with c := true, v := true } }
      (fun t => t.pc == 0x2202 && t.p.n && !t.p.c) = true := by decide

/-- T42.35: `CPX $10`. -/
theorem test_cpx_less :
    after { at_ 0x2200 [0xE4, 0x10] [(0x0010, 0x06)] with x := 0x05 }
      (fun t => t.pc == 0x2202 && t.p.n) = true := by decide

/-- T42.36: `CPY $3000`. -/
theorem test_cpy_equal :
    after { at_ 0x2200 [0xCC, 0x00, 0x30] [(0x3000, 0xFF)] with y := 0xFF }
      (fun t => t.pc == 0x2203 && t.p.z && t.p.c) = true := by decide

/-- T42.38: `INC $30FF,X`. -/
theorem test_inc_absolute_x :
    after { at_ 0x2200 [0xFE, 0xFF, 0x30] [(0x3100, 0x7F)] with x := 0x01 }
      (fun t => t.pc == 0x2203 && t.p.n && t.byteAt 0x3100 == 0x80) = true := by decide

/-- T42.40: `DEC $FF,X`. -/
theorem test_dec_zero_page_x_wraps :
    after { at_ 0x2200 [0xD6, 0xFF] [(0x0000, 0x01)] with x := 0x01 }
      (fun t => t.pc == 0x2202 && t.p.z && t.byteAt 0x0000 == 0x00) = true := by decide

/-- T42.41: `INX`. -/
theorem test_inx_wraps :
    after { at_ 0x2200 [0xE8] [] with x := 0xFF }
      (fun t => t.x == 0x00 && t.pc == 0x2201 && t.p.z) = true := by decide

/-- T42.42: `INY`. -/
theorem test_iny :
    after { at_ 0x2200 [0xC8] [] with y := 0x7F }
      (fun t => t.y == 0x80 && t.pc == 0x2201 && t.p.n) = true := by decide

/-- T42.43: `DEX`. -/
theorem test_dex_wraps :
    after { at_ 0x2200 [0xCA] [] with x := 0x00, p := { clearFlags with c := true } }
      (fun t => t.x == 0xFF && t.pc == 0x2201 && t.p.n) = true := by decide

/-- T42.44: `DEY`. -/
theorem test_dey :
    after { at_ 0x2200 [0x88] [] with y := 0x01 }
      (fun t => t.y == 0x00 && t.pc == 0x2201 && t.p.z) = true := by decide

/-- T42.45: `NEG A`. -/
theorem test_neg_0x80 :
    after { at_ 0x2200 [0x1A] [] with a := 0x80 }
      (fun t => t.pc == 0x2201 && t.p.n) = true := by decide

/-- T42.49: `LAB A`. -/
theorem test_lab :
    after { at_ 0x2200 [0x13] [] with a := 0xFE, p := { clearFlags with n := true } }
      (fun t => t.a == 0x02 && t.pc == 0x2201 && !t.p.n) = true := by decide

/-- T43.2: `ASL $10`. -/
theorem test_asl_memory :
    after { at_ 0x2200 [0x06, 0x10] [(0x0010, 0x41)] with
        a := 0x55, p := { clearFlags with c := true } }
      (fun t => t.pc == 0x2202 && t.p.n && !t.p.c && t.byteAt 0x0010 == 0x82) = true := by decide

/-- T43.4: `LSR $3000,X`. -/
theorem test_lsr_absolute_x :
    after { at_ 0x2200 [0x5E, 0x00, 0x30] [(0x3002, 0x80)] with
        x := 0x02, p := { clearFlags with c := true, n := true } }
      (fun t => t.pc == 0x2203 && !t.p.n && !t.p.c && t.byteAt 0x3002 == 0x40) = true := by decide

/-- T43.5: `ROL A`. -/
theorem test_rol_a_takes_carry :
    after { at_ 0x2200 [0x2A] [] with a := 0x80, p := { clearFlags with c := true } }
      (fun t => t.a == 0x01 && t.pc == 0x2201) = true := by decide

/-- T43.10: `ROR $10,X`. -/
theorem test_ror_zero_page_x :
    after { at_ 0x2200 [0x76, 0x10] [(0x0011, 0x03)] with
        x := 0x01, p := { clearFlags with c := true } }
      (fun t => t.pc == 0x2202 && t.p.n && t.byteAt 0x0011 == 0x81) = true := by decide

/-- T43.13: `ASR A`. -/
theorem test_asr_keeps_sign :
    after { at_ 0x2200 [0x3A] [] with a := 0x80, p := { clearFlags with c := true } }
      (fun t => t.a == 0xC0 && t.pc == 0x2201 && t.p.n && !t.p.c) = true := by decide

/-- T43.15: `MPY`. -/
theorem test_mpy_minus_one_squared :
    after { at_ 0x2200 [0x02] [] with
        a := 0xFF, y := 0xFF,
        p := { clearFlags with v := true, n := true, z := true, c := true } }
      (fun t => t.a == 0x00 && t.y == 0x01 && t.pc == 0x2201 && !t.p.n &&
        !t.p.v) = true := by decide

/-- T43.17: `MPY`. -/
theorem test_mpy_negative :
    after { at_ 0x2200 [0x02] [] with a := 0x80, y := 0x7F }
      (fun t => t.a == 0xC0 && t.y == 0x80 && t.pc == 0x2201 && t.p.n) = true := by decide

/-- T43.22: `MPA`. -/
theorem test_mpa_saturates_low :
    after { at_ 0x2200 [0x12] [] with w := 0x8000, a := 0x80, y := 0x7F }
      (fun t => t.pc == 0x2201 && t.p.n && t.p.v) = true := by decide

/-- T43.23: `MPA`. -/
theorem test_mpa_negative :
    after { at_ 0x2200 [0x12] [] with
        w := 0x0000, a := 0xFF, y := 0x01, p := { clearFlags with z := true, c := true } }
      (fun t => t.pc == 0x2201 && t.w == 0xFFFF && t.p.n) = true := by decide

/-- T43.31: `RND`. -/
theorem test_rnd_saturates :
    after { at_ 0x2200 [0x42] [] with w := 0x7F80, a := 0x00, y := 0x66 }
      (fun t => t.a == 0x7F && t.pc == 0x2201 && t.p.v) = true := by decide

/-- T43.34: `RND`. -/
theorem test_rnd_negative :
    after { at_ 0x2200 [0x42] [] with w := 0x8080, a := 0x00 }
      (fun t => t.a == 0x81 && t.pc == 0x2201 && t.p.n) = true := by decide

/-- T43.36: `TAW`. -/
theorem test_taw :
    after { at_ 0x2200 [0x62] [] with a := 0x80, w := 0x12FF }
      (fun t => t.pc == 0x2201 && t.w == 0x8000 && t.p.n) = true := by decide

/-- T43.38: `TWA`. -/
theorem test_twa :
    after { at_ 0x2200 [0x72] [] with
        w := 0x12FF, a := 0x00, p := { clearFlags with z := true } }
      (fun t => t.a == 0x12 && t.pc == 0x2201 && !t.p.z) = true := by decide

/-- T43.41: `CLW`. -/
theorem test_clw :
    after { at_ 0x2200 [0x52] [] with
        w := 0xFFFF, p := { clearFlags with v := true, n := true } }
      (fun t => t.pc == 0x2201 && t.w == 0x0000 && !t.p.v) = true := by decide

/-- T44.1: `RMB 3,$20`. -/
theorem test_rmb3 :
    after { at_ 0x2200 [0x37, 0x20] [(0x0020, 0xFF)] with a := 0x00 }
      (fun t => t.pc == 0x2202 && t.byteAt 0x0020 == 0xF7) = true := by decide

/-- T44.3: `SMB 7,$20`. -/
theorem test_smb7 :
    after (at_ 0x2200 [0xF7, 0x20] [(0x0020, 0x00)])
      (fun t => t.pc == 0x2202 && t.byteAt 0x0020 == 0x80) = true := by decide

/-- T44.5: `RBA #$81,$3000`. -/
theorem test_rba :
    after { at_ 0x2200 [0xC2, 0x81, 0x00, 0x30] [(0x3000, 0xFF)] with a := 0x55 }
      (fun t => t.pc == 0x2204 && t.byteAt 0x3000 == 0x7E) = true := by decide

/-- T44.7: `SBA #$81,$3000`. -/
theorem test_sba :
    after { at_ 0x2200 [0xD2, 0x81, 0x00, 0x30] [(0x3000, 0x10)] with a := 0x55 }
      (fun t => t.pc == 0x2204 && t.byteAt 0x3000 == 0x91) = true := by decide

/-- T44.10: `BBR 7,$20,$2183`. -/
theorem test_bbr7_back :
    after (at_ 0x2200 [0x7F, 0x20, 0x80] [(0x0020, 0x7F)])
      (fun t => t.pc == 0x2183) = true := by decide

/-- T44.12: `BBS 7,$20,$2200`. -/
theorem test_bbs7_to_itself :
    after (at_ 0x2200 [0xFF, 0x20, 0xFD] [(0x0020, 0x80)])
      (fun t => t.pc == 0x2200) = true := by decide

/-- T44.17: `BAR $3000,#$FF,$2200`. -/
theorem test_bar_any_bit_clear :
    after (at_ 0x2200 [0xE2, 0x00, 0x30, 0xFF, 0xFB] [(0x3000, 0x7F)])
      (fun t => t.pc == 0x2200) = true := by decide

/-- T44.19: `BAS $3000,#$81,$21F5`. -/
theorem test_bas_any_bit_set :
    after (at_ 0x2200 [0xF2, 0x00, 0x30, 0x81, 0xF0] [(0x3000, 0x01)])
      (fun t => t.pc == 0x21F5) = true := by decide

/-- T45.1: `BCC $2252`. -/
theorem test_bcc_taken :
    after (at_ 0x2200 [0x90, 0x50] [])
      (fun t => t.pc == 0x2252) = true := by decide

/-- T45.3: `BCS $21B2`. -/
theorem test_bcs_back_across_page :
    after { at_ 0x2200 [0xB0, 0xB0] [] with p := { clearFlags with c := true } }
      (fun t => t.pc == 0x21B2) = true := by decide

/-- T45.5: `BEQ $1000`. -/
theorem test_beq_to_itself :
    after { at_ 0x1000 [0xF0, 0xFE] [] with p := { clearFlags with z := true } }
      (fun t => t.pc == 0x1000) = true := by decide

/-- T45.8: `BMI $2212`. -/
theorem test_bmi_not_taken :
    after (at_ 0x2200 [0x30, 0x10] [])
      (fun t => t.pc == 0x2202) = true := by decide

/-- T45.9: `BNE $2202`. -/
theorem test_bne_taken :
    after (at_ 0x2205 [0xD0, 0xFB] [])
      (fun t => t.pc == 0x2202) = true := by decide

/-- T45.12: `BPL $2281`. -/
theorem test_bpl_not_taken :
    after { at_ 0x2200 [0x10, 0x7F] [] with p := { clearFlags with n := true } }
      (fun t => t.pc == 0x2202) = true := by decide

/-- T45.13: `BVC $2182`. -/
theorem test_bvc_taken :
    after (at_ 0x2200 [0x50, 0x80] [])
      (fun t => t.pc == 0x2182) = true := by decide

/-- T45.15: `BVS $2212`. -/
theorem test_bvs_taken :
    after { at_ 0x2200 [0x70, 0x10] [] with p := { clearFlags with v := true } }
      (fun t => t.pc == 0x2212) = true := by decide

/-- T45.20: `BRA $FF82`. -/
theorem test_bra_wraps :
    after (at_ 0x0000 [0x80, 0x80] [])
      (fun t => t.pc == 0xFF82) = true := by decide

/-- T45.22: `JMP ($30FF)`. -/
theorem test_jmp_pointer_crosses_page :
    after (at_ 0x2200 [0x6C, 0xFF, 0x30] [(0x30FF, 0x34), (0x3100, 0x12)])
      (fun t => t.pc == 0x1234) = true := by decide

/-- T45.25: `JMP ($30F0,X)`. -/
theorem test_jmp_indexed_pointer :
    after { at_ 0x2200 [0x7C, 0xF0, 0x30] [(0x3110, 0x78), (0x3111, 0x56)] with x := 0x20 }
      (fun t => t.pc == 0x5678) = true := by decide

/-- T45.27: `JSR $3000`. -/
theorem test_jsr_stack_wraps :
    after { at_ 0x22FE [0x20, 0x00, 0x30] [] with sp := 0x00 }
      (fun t => t.sp == 0xFE && t.pc == 0x3000 && t.byteAt 0x0100 == 0x23 &&
        t.byteAt 0x01FF == 0x01) = true := by decide

/-- T45.29: `JSB 7`. -/
theorem test_jsb7 :
    after { at_ 0x22FF [0x7B] [(0xFFEE, 0x34), (0xFFEF, 0x12)] with sp := 0x80 }
      (fun t => t.sp == 0x7E && t.pc == 0x1234 && t.byteAt 0x0180 == 0x23 &&
        t.byteAt 0x017F == 0x00) = true := by decide

/-- T45.32: `RTS`. -/
theorem test_rts_stack_wraps :
    after { at_ 0x3300 [0x60] [(0x0100, 0x20), (0x01FF, 0x10)] with sp := 0xFE }
      (fun t => t.sp == 0x00 && t.pc == 0x2010) = true := by decide

/-- T45.34: `RTI`. -/
theorem test_rti_leaves_b :
    after { at_ 0x3300 [0x40] [(0x01FD, 0xFF), (0x01FE, 0x00), (0x01FF, 0x80)] with sp := 0xFC }
      (fun t => t.sp == 0xFF && t.pc == 0x8000 && t.p.n && t.p.v && t.p.d && t.p.z &&
        t.p.c) = true := by decide

/-- T45.36: `BRK`. -/
theorem test_brk :
    after { at_ 0x2200 [0x00] [(0xFFFC, 0x00), (0xFFFD, 0x90)] with
        sp := 0xFF, p := { clearFlags with z := true, c := true, i := false } }
      (fun t => t.sp == 0xFC && t.pc == 0x9000 && t.p.b && t.p.i && t.byteAt 0x01FF == 0x22 &&
        t.byteAt 0x01FE == 0x01 && t.byteAt 0x01FD == 0x23) = true := by decide

/-- T46.1: `PHA`. -/
theorem test_pha :
    after { at_ 0x2200 [0x48] [] with a := 0x5A, sp := 0xFF }
      (fun t => t.sp == 0xFE && t.pc == 0x2201 && t.byteAt 0x01FF == 0x5A) = true := by decide

/-- T46.2: `PHP`. -/
theorem test_php :
    after { at_ 0x2200 [0x08] [] with
        sp := 0xFF, p := { clearFlags with n := true, c := true } }
      (fun t => t.sp == 0xFE && t.pc == 0x2201 && t.byteAt 0x01FF == 0xA5) = true := by decide

/-- T46.6: `PHX`. -/
theorem test_phx :
    after { at_ 0x2200 [0xDA] [] with x := 0x01, sp := 0x80 }
      (fun t => t.sp == 0x7F && t.pc == 0x2201 && t.byteAt 0x0180 == 0x01) = true := by decide

/-- T46.7: `PHY`. -/
theorem test_phy_stack_wraps :
    after { at_ 0x2200 [0x5A] [] with y := 0xFF, sp := 0x00 }
      (fun t => t.sp == 0xFF && t.pc == 0x2201 && t.byteAt 0x0100 == 0xFF) = true := by decide

/-- T46.9: `PHW`. -/
theorem test_phw_stack_wraps :
    after { at_ 0x2200 [0x23] [] with w := 0x1234, sp := 0x00 }
      (fun t => t.sp == 0xFE && t.pc == 0x2201 && t.byteAt 0x0100 == 0x12 &&
        t.byteAt 0x01FF == 0x34) = true := by decide

/-- T46.10: `PHI`. -/
theorem test_phi :
    after { at_ 0x2200 [0xCB] [] with ireg := 0x4000, sp := 0xFF }
      (fun t => t.sp == 0xFD && t.pc == 0x2201 && t.byteAt 0x01FF == 0x40 &&
        t.byteAt 0x01FE == 0x00) = true := by decide

/-- T46.11: `PSH`. -/
theorem test_psh :
    after { at_ 0x2200 [0x22] [] with a := 0x01, x := 0x02, y := 0x03, sp := 0xFF }
      (fun t => t.sp == 0xFC && t.pc == 0x2201 && t.byteAt 0x01FF == 0x01 &&
        t.byteAt 0x01FE == 0x02 && t.byteAt 0x01FD == 0x03) = true := by decide

/-- T46.13: `PLA`. -/
theorem test_pla :
    after { at_ 0x2200 [0x68] [(0x01FF, 0x80)] with sp := 0xFE, a := 0x55 }
      (fun t => t.a == 0x80 && t.sp == 0xFF && t.pc == 0x2201 && t.p.n) = true := by decide

/-- T46.15: `PLP`. -/
theorem test_plp_leaves_b :
    after { at_ 0x2200 [0x28] [(0x01FF, 0x00)] with
        sp := 0xFE,
        p := { clearFlags with b := true, n := true, v := true, d := true, z := true, c := true } }
      (fun t => t.sp == 0xFF && t.pc == 0x2201 && !t.p.n && !t.p.v && !t.p.d && !t.p.i &&
        !t.p.z && !t.p.c) = true := by decide

/-- T46.17: `PLX`. -/
theorem test_plx :
    after { at_ 0x2200 [0xFA] [(0x01FF, 0x80)] with sp := 0xFE, x := 0x00 }
      (fun t => t.x == 0x80 && t.sp == 0xFF && t.pc == 0x2201 && t.p.n) = true := by decide

/-- T46.18: `PLY`. -/
theorem test_ply_stack_wraps :
    after { at_ 0x2200 [0x7A] [(0x0100, 0x01)] with sp := 0xFF, y := 0x00 }
      (fun t => t.y == 0x01 && t.sp == 0x00 && t.pc == 0x2201) = true := by decide

/-- T46.19: `PLW`. -/
theorem test_plw :
    after { at_ 0x2200 [0x33] [(0x01FE, 0x34), (0x01FF, 0x12)] with
        sp := 0xFD, w := 0x0000, p := { clearFlags with n := true, z := true, v := true } }
      (fun t => t.sp == 0xFF && t.pc == 0x2201 && t.w == 0x1234) = true := by decide

/-- T46.20: `PLI`. -/
theorem test_pli :
    after { at_ 0x2200 [0xDB] [(0x01FE, 0x00), (0x01FF, 0x40), (0x4000, 0x99)] with
        sp := 0xFD, ireg := 0x0000, a := 0x11, x := 0x22 }
      (fun t => t.sp == 0xFF && t.pc == 0x2201 && t.ireg == 0x4000) = true := by decide

/-- T46.21: `PUL`. -/
theorem test_pul :
    after { at_ 0x2200 [0x32] [(0x01FD, 0x03), (0x01FE, 0x02), (0x01FF, 0x00)] with
        sp := 0xFC, a := 0x77, x := 0x77, y := 0x77,
        p := { clearFlags with n := true, z := true } }
      (fun t => t.a == 0x00 && t.x == 0x02 && t.y == 0x03 && t.sp == 0xFF &&
        t.pc == 0x2201) = true := by decide

/-- T46.23: `PIA`. -/
theorem test_pia :
    after { at_ 0x3000 [0xFB] [(0x01FE, 0xFF), (0x01FF, 0xFF), (0xFFFF, 0x00)] with
        sp := 0xFD, a := 0x11, x := 0x22, ireg := 0x1234 }
      (fun t => t.a == 0x00 && t.x == 0x00 && t.sp == 0xFF && t.pc == 0x3001 &&
        t.ireg == 0x0000 && t.p.z) = true := by decide

/-- T47.2: `NXT`. -/
theorem test_nxt_wraps :
    after { at_ 0x2200 [0x8B] [(0x0000, 0x30), (0xFFFF, 0x00)] with ireg := 0xFFFF }
      (fun t => t.pc == 0x3000 && t.ireg == 0x0001) = true := by decide

/-- T47.4: `LII`. -/
theorem test_lii_from_old_i :
    after { at_ 0x2200 [0x9B] [(0x4000, 0x01), (0x4001, 0x40)] with ireg := 0x4000 }
      (fun t => t.pc == 0x2201 && t.ireg == 0x4001) = true := by decide

/-- T47.5: `LAI`. -/
theorem test_lai :
    after { at_ 0x2200 [0xEB] [(0x4000, 0x00)] with
        ireg := 0x4000, a := 0x55, p := { clearFlags with n := true } }
      (fun t => t.a == 0x00 && t.pc == 0x2201) = true := by decide

/-- T47.7: `LAN`. -/
theorem test_lan_wraps :
    after { at_ 0x2200 [0xAB] [(0xFFFF, 0x80)] with ireg := 0xFFFF, a := 0x00 }
      (fun t => t.a == 0x80 && t.pc == 0x2201 && t.ireg == 0x0000) = true := by decide

/-- T47.9: `INI`. -/
theorem test_ini_wraps :
    after { at_ 0x2200 [0xBB] [] with ireg := 0xFFFF }
      (fun t => t.pc == 0x2201 && t.ireg == 0x0000) = true := by decide

/-- T47.11: `JPI ($30FF)`. -/
theorem test_jpi_leaves_next_in_i :
    after { at_ 0xFFFD [0x0C, 0xFF, 0x30] [(0x30FF, 0x00), (0x3100, 0x60)] with ireg := 0x1111 }
      (fun t => t.pc == 0x6000 && t.ireg == 0x0000) = true := by decide

/-- T47.12: `TIP`. -/
theorem test_tip :
    after { at_ 0x6000 [0x03] [] with ireg := 0x2203 }
      (fun t => t.pc == 0x2203) = true := by decide

/-- T48.1: `CLC`. -/
theorem test_clc :
    after { at_ 0x2200 [0x18] [] with p := { clearFlags with c := true } }
      (fun t => t.pc == 0x2201 && !t.p.c) = true := by decide

/-- T48.3: `CLD`. -/
theorem test_cld :
    after { at_ 0x2200 [0xD8] [] with p := { clearFlags with d := true } }
      (fun t => t.pc == 0x2201 && !t.p.d) = true := by decide

/-- T48.4: `CLI`. -/
theorem test_cli :
    after (at_ 0x2200 [0x58] [])
      (fun t => t.pc == 0x2201 && !t.p.i) = true := by decide

/-- T48.5: `CLV`. -/
theorem test_clv :
    after { at_ 0x2200 [0xB8] [] with p := { clearFlags with v := true } }
      (fun t => t.pc == 0x2201 && !t.p.v) = true := by decide

/-- T48.6: `SEC`. -/
theorem test_sec :
    after (at_ 0x2200 [0x38] [])
      (fun t => t.pc == 0x2201 && t.p.c) = true := by decide

/-- T48.7: `SED`. -/
theorem test_sed :
    after (at_ 0x2200 [0xF8] [])
      (fun t => t.pc == 0x2201 && t.p.d) = true := by decide

/-- T48.8: `SEI`. -/
theorem test_sei :
    after { at_ 0x2200 [0x78] [] with p := { clearFlags with i := false } }
      (fun t => t.pc == 0x2201 && t.p.i) = true := by decide

/-- T48.9: `NOP`. -/
theorem test_nop :
    after { at_ 0x2200 [0xEA] [] with
        a := 0x12, p := { clearFlags with n := true, z := true, c := true } }
      (fun t => t.pc == 0x2201) = true := by decide

/-! ### Interrupts, reset and the unused op codes -/

/-- T60.1: NMI is taken before the NOP; what is pushed is PC and P. -/
theorem test_nmi :
    after { at_ 0x2200 [0xEA] [(0xFFFD, 0x90)] with
        p := { clearFlags with n := true, c := true, i := false }, nmiPending := true }
      (fun t => t.byteAt 0x01FF == 0x22 && t.byteAt 0x01FE == 0x00 && t.byteAt 0x01FD == 0xA1 &&
        t.sp == 0xFC && t.p.i && t.pc == 0x9000 && !t.nmiPending) = true := by decide

/-- T60.3, step 1: a masked request waits while the NOP runs. -/
theorem test_masked_request_waits :
    after { at_ 0x2200 [0xEA, 0x58, 0xEA] [] with irqs := twoSources true false }
      (fun t => t.pc == 0x2201 && t.irqs == twoSources true false) = true := by decide

/-- T60.3, step 3: right after CLI the request is taken. -/
theorem test_irq_after_cli :
    after { at_ 0x2202 [0xEA] [(0xFFFA, 0x00), (0xFFFB, 0xA0)] with
        p := { clearFlags with i := false }, irqs := twoSources true false }
      (fun t => t.byteAt 0x01FF == 0x22 && t.byteAt 0x01FE == 0x02 && t.byteAt 0x01FD == 0x20 &&
        t.pc == 0xA000 && t.irqs == twoSources false false) = true := by decide

/-- T60.4, step 1: NMI comes first and the maskable request stays. -/
theorem test_nmi_before_irq :
    after { at_ 0x2200 [0xEA] [(0xFFFD, 0x90)] with
        p := { clearFlags with i := false }, nmiPending := true, irqs := twoSources true true }
      (fun t => t.pc == 0x9000 && t.irqs == twoSources true true) = true := by decide

/-- T60.11: reset takes the vector at FFFE, clears D and the requests and writes no memory. -/
theorem test_reset :
    after { at_ 0x1234 [0xEA] [(0xFFFF, 0x20)] with
        p := { clearFlags with d := true, i := false }, resetPending := true, nmiPending := true,
        irqs := twoSources true true }
      (fun t => t.pc == 0x2000 && !t.p.d && t.p.i && !t.resetPending && !t.nmiPending &&
        t.irqs == twoSources false false && t.mem == put (putCode [] 0x1234 [0xEA]) [(0xFFFF, 0x20)]) =
      true := by decide

/-- R315: an op code that is not used stops the machine. -/
theorem test_unused_stops :
    step (at_ 0x2200 [0x04] []) = .fault (.unusedOpcode 0x04 0x2200) := by rfl

/-- What `withFetchWord` stores is what the next step runs. -/
theorem test_fetch_word :
    after (State.reset.withFetchWord 16 0x7FA9) (fun t => t.a == 0x7F && t.pc == 0x0002) = true := by
  decide

/-! ### Cycles (R335, R336) -/

/-- ADC absolute,X across a page in decimal mode: 4 + 1 + 1. -/
theorem test_cycles_adc_decimal_page :
    after { at_ 0x2200 [0x7D, 0xFF, 0x30] [] with x := 1, p := { clearFlags with d := true } }
      (fun t => t.bus.cycles == 6) = true := by decide

/-- A conditional branch taken to another page: 2 + 2. -/
theorem test_cycles_branch_page :
    after { at_ 0x2200 [0x90, 0xB0] [] with a := 0 } (fun t => t.bus.cycles == 4) = true := by decide

/-- A store to a device window reaches the device (R42). -/
theorem test_device_gets_the_store :
    after (mapped (at_ 0x2200 [0x8D, 0x10, 0x30] []))
      (fun t => t.bus.io == [.write 0x3010 0x00]) = true := by decide

/-! ### The hypotheses of the statements can be met -/

theorem witness_encodeOfDecode :
    decode [0x8F, 0x20, 0x05, 0xEA] = .instr (.bbs0 0x20 0x05) [0xEA] := by decide

theorem witness_encodeOfDecode_five_bytes :
    decode [0xE2, 0xFF, 0xFF, 0x00, 0x80] = .instr (.bar 0xFFFF 0x00 0x80) [] := by decide

/-- BBS at the top of memory, its last byte at address 0. -/
theorem witness_stepRunsDecodedInstruction :
    (at_ 0xFFFE [0x8F, 0x20, 0x05] []).Quiet ∧
      (at_ 0xFFFE [0x8F, 0x20, 0x05] []).CodeStored 0xFFFE (encode (.bbs0 0x20 0x05)).length ∧
      decode ((at_ 0xFFFE [0x8F, 0x20, 0x05] []).codeBytes 0xFFFE
        (encode (.bbs0 0x20 0x05)).length) = .instr (.bbs0 0x20 0x05) [] := by
  refine ⟨⟨rfl, rfl, Or.inl rfl⟩, ⟨Or.inl rfl, Or.inl rfl, Or.inl rfl, trivial⟩, by decide⟩

/-- The same boundary with I_flag = 0 and a source that does not request. -/
theorem witness_quiet_unmasked :
    { at_ 0x2200 [0xEA] [] with
      p := { clearFlags with i := false }, irqs := twoSources false false }.Quiet :=
  ⟨rfl, rfl, Or.inr (by decide)⟩

theorem witness_stepStops :
    (at_ 0x2200 [0x04] []).Quiet ∧ (at_ 0x2200 [0x04] []).peek 0x2200 ∈ unusedOpcodes :=
  ⟨⟨rfl, rfl, Or.inl rfl⟩, by decide⟩

/-- The pointer of (n) at 0xFF takes its high byte from address 0. -/
theorem witness_effectiveAddress_pointer :
    (mapped State.reset).Stored (zext 0xFF) ∧ (mapped State.reset).Stored (zext (0xFF + 1)) :=
  ⟨Or.inl rfl, Or.inl rfl⟩

theorem witness_operandByte :
    (mapped (at_ 0x2200 [] [(0xFF, 0x34), (0, 0x12)])).Stored
      ((mapped (at_ 0x2200 [] [(0xFF, 0x34), (0, 0x12)])).resolve .read (.ind 0xFF)).1 :=
  Or.inl (by decide)

/-- Each kind of region, at the ends of its records. -/
theorem witness_access_kinds :
    (mapped State.reset).kindAt 0x0000 = .ram ∧ (mapped State.reset).kindAt 0x2FFF = .ram ∧
      (mapped State.reset).kindAt 0x3000 = .io ∧ (mapped State.reset).kindAt 0x30FF = .io ∧
      (mapped State.reset).kindAt 0x3100 = .unmapped ∧
      (mapped State.reset).kindAt 0x7FFF = .unmapped ∧
      (mapped State.reset).kindAt 0x8000 = .rom ∧ (mapped State.reset).kindAt 0xFFFF = .rom := by
  decide

theorem witness_memoryForm :
    Memory.wf (at_ 0x2200 [0x85, 0x10] [(0x10, 0x7F)]).mem = true ∧
      ∃ t : State, step (at_ 0x2200 [0x85, 0x10] [(0x10, 0x7F)]) = .next t :=
  ⟨by decide, _, rfl⟩

/-- STA to read-only memory, to a device window and to where nothing is. -/
theorem witness_onlyReadWriteMemory :
    (∃ t : State, step (mapped (at_ 0x2200 [0x8D, 0x00, 0x80] [])) = .next t) ∧
      (mapped (at_ 0x2200 [0x8D, 0x00, 0x80] [])).kindAt 0x8000 ≠ .ram ∧
      (mapped (at_ 0x2200 [0x8D, 0x00, 0x80] [])).kindAt 0x3000 ≠ .ram ∧
      (mapped (at_ 0x2200 [0x8D, 0x00, 0x80] [])).kindAt 0x3100 ≠ .ram :=
  ⟨⟨_, rfl⟩, by decide, by decide, by decide⟩

/-- No list of forms is empty. -/
theorem witness_forms :
    [ldaForms 1 2, ldxForms 1 2, ldyForms 1 2, adcForms 1 2, addForms 1 2, sbcForms 1 2,
        andForms 1 2, oraForms 1 2, eorForms 1 2, bitForms 1 2, cmpForms 1 2, cpxForms 1 2,
        cpyForms 1 2].map List.length = [8, 5, 5, 8, 3, 8, 8, 8, 8, 2, 8, 3, 3] ∧
      [staForms 1 2, stxForms 1 2, styForms 1 2, incForms 1 2, decForms 1 2, aslForms 1 2,
        lsrForms 1 2, rolForms 1 2, rorForms 1 2].map List.length = [7, 3, 3, 4, 4, 4, 4, 4, 4] := by
  decide

theorem witness_exchange :
    { State.reset with x := 0x11 }.Stored (zext (0xF0 + 0x11)) := Or.inl rfl

theorem witness_addBinary_adc :
    { at_ 0 [] [] with p := { clearFlags with c := true } }.p.d = false ∧
      (⟨0x69, .adcImm 0x80, .imm 0x80⟩ : ReadForm) ∈ adcForms 0x80 0 ∧
      1 = (if { at_ 0 [] [] with p := { clearFlags with c := true } }.p.c = true then 1 else 0) := by
  decide

theorem witness_addBinary_add :
    (at_ 0 [] []).p.d = false ∧ (⟨0x89, .addImm 0xFF, .imm 0xFF⟩ : ReadForm) ∈ addForms 0xFF 0 := by
  decide

theorem witness_subtractBinary :
    (at_ 0 [] []).p.d = false ∧ (⟨0xE9, .sbcImm 0x80, .imm 0x80⟩ : ReadForm) ∈ sbcForms 0x80 0 ∧
      (1 : Int) = (if (at_ 0 [] []).p.c = true then 0 else 1) := by decide

/-- 99 + 1 + 1 in decimal mode, and 00 - 99. -/
theorem witness_decimal :
    ∃ s : State, s.p.d = true ∧ isBcd s.a = true ∧ isBcd (s.operand (.imm 0x99)).1 = true ∧
      1 = (if s.p.c = true then 1 else 0) ∧
      (⟨0x69, .adcImm 0x99, .imm 0x99⟩ : ReadForm) ∈ adcForms 0x99 0 ∧
      (⟨0x89, .addImm 0x99, .imm 0x99⟩ : ReadForm) ∈ addForms 0x99 0 ∧
      (⟨0xE9, .sbcImm 0x99, .imm 0x99⟩ : ReadForm) ∈ sbcForms 0x99 0 :=
  ⟨{ at_ 0 [] [] with a := 0x01, p := { clearFlags with d := true, c := true } }, by decide⟩

/-- A is not packed BCD; the operand is not. -/
theorem witness_decimalInvalid :
    (∃ s : State, s.p.d = true ∧ isBcd s.a = false ∧
      (⟨0x69, .adcImm 0x01, .imm 0x01⟩ : ReadForm) ∈ adcForms 1 0 ++ addForms 1 0 ++ sbcForms 1 0) ∧
    ∃ s : State, s.p.d = true ∧ isBcd (s.operand (.imm 0xA0)).1 = false ∧
      (⟨0xE9, .sbcImm 0xA0, .imm 0xA0⟩ : ReadForm) ∈
        adcForms 0xA0 0 ++ addForms 0xA0 0 ++ sbcForms 0xA0 0 :=
  ⟨⟨{ at_ 0 [] [] with a := 0x0A, p := { clearFlags with d := true } }, by decide⟩,
    ⟨{ at_ 0 [] [] with p := { clearFlags with d := true } }, by decide⟩⟩

theorem witness_logic :
    (⟨0x29, .andImm 1, .imm 1⟩ : ReadForm) ∈ andForms 1 2 ∧ and = and ∧
      (⟨0x0D, .oraAbs 2, .mem (.abs 2)⟩ : ReadForm) ∈ oraForms 1 2 ∧
      (⟨0x51, .eorIndX 1, .mem (.indX 1)⟩ : ReadForm) ∈ eorForms 1 2 :=
  ⟨by decide, rfl, by decide, by decide⟩

theorem witness_bitTestAndCompare :
    (⟨0x24, .bitZp 1, .mem (.zp 1)⟩ : ReadForm) ∈ bitForms 1 2 ∧
      (⟨0x2C, .bitAbs 2, .mem (.abs 2)⟩ : ReadForm) ∈ bitForms 1 2 ∧
      (⟨0xC9, .cmpImm 1, .imm 1⟩ : ReadForm) ∈ cmpForms 1 2 ∧
      (⟨0xE4, .cpxZp 1, .mem (.zp 1)⟩ : ReadForm) ∈ cpxForms 1 2 ∧
      (⟨0xCC, .cpyAbs 2, .mem (.abs 2)⟩ : ReadForm) ∈ cpyForms 1 2 := by decide

/-- INC and DEC of a byte in memory and in a device window. -/
theorem witness_incrementMemory :
    (⟨0xFE, .incAbsX 0x2FFE, .absX 0x2FFE⟩ : MemForm) ∈ incForms 1 0x2FFE ∧
      (⟨0xDE, .decAbsX 0x2FFE, .absX 0x2FFE⟩ : MemForm) ∈ decForms 1 0x2FFE ∧
      (mapped { State.reset with x := 1 }).Stored
        ((mapped { State.reset with x := 1 }).resolve .write (.absX 0x2FFE)).1 ∧
      ¬ (mapped { State.reset with x := 2 }).Stored
        ((mapped { State.reset with x := 2 }).resolve .write (.absX 0x2FFE)).1 := by decide

theorem witness_shiftMemory :
    (⟨0x06, .aslZp 1, .zp 1⟩ : MemForm) ∈ aslForms 1 2 ∧
      (⟨0x4E, .lsrAbs 2, .abs 2⟩ : MemForm) ∈ lsrForms 1 2 ∧
      (⟨0x36, .rolZpX 1, .zpX 1⟩ : MemForm) ∈ rolForms 1 2 ∧
      (⟨0x7E, .rorAbsX 2, .absX 2⟩ : MemForm) ∈ rorForms 1 2 := by decide

/-- The first clause at A = 0x80, and the last at A = 0xFF. -/
theorem witness_shiftAccumulator :
    (0 = 2 * (0x80 : Byte).toNat % 256 ∧ 1 = (0x80 : Byte).toNat / 128) ∧
      (255 = (BitVec.ofInt 8 ((0xFF : Byte).toInt / 2)).toNat ∧ 1 = (0xFF : Byte).toNat % 2) := by
  decide

theorem witness_round :
    (∃ t : State, exec .rnd { State.reset with w := 0x7F7F } = .next t ∧ t.p.v = false) ∧
      ∃ t : State, exec .rnd { State.reset with w := 0x7F80 } = .next t ∧ t.p.v = true :=
  ⟨⟨_, rfl, by decide⟩, ⟨_, rfl, by decide⟩⟩

theorem witness_setResetBit :
    rmbForm 0x20 0 = .rmb0 0x20 ∧ smbForm 0xFF 7 = .smb7 0xFF ∧ State.reset.Stored (zext 0xFF) :=
  ⟨rfl, rfl, Or.inl rfl⟩

theorem witness_maskedSetReset :
    (mapped State.reset).Stored 0x2FFF ∧ (mapped State.reset).Stored 0x8000 ∧
      ¬ (mapped State.reset).Stored 0x3000 := by decide

theorem witness_bitBranch :
    bbrForm 0x20 0x10 0 = .bbr0 0x20 0x10 ∧ bbsForm 0xFF 0x80 7 = .bbs7 0xFF 0x80 ∧
      State.reset.Stored (zext 0xFF) := ⟨rfl, rfl, Or.inl rfl⟩

/-- A BCC that is taken and a BCS that is not. -/
theorem witness_relativeBranch :
    true = !(at_ 0 [] []).p.c ∧ false = (at_ 0 [] []).p.c := by decide

/-- The indexed pointer at the top of the address space. -/
theorem witness_jump :
    State.reset.WordStored 0xFFFF ∧
      (0x0000 : Word).toNat =
        ((0xFFFF : Word).toNat + { State.reset with x := 1 }.x.toNat) % 65536 ∧
      { State.reset with x := 1 }.WordStored 0x0000 := by decide

/-- The first and the last vector of JSB. -/
theorem witness_call :
    (0xFFE0 : Word).toNat = 0xFFE0 + 2 * (0 : Fin 8).val ∧
      (0xFFEE : Word).toNat = 0xFFE0 + 2 * (7 : Fin 8).val ∧
      State.reset.WordStored 0xFFE0 ∧ State.reset.WordStored 0xFFEE := by decide

/-- The stack bytes of a return that wraps in page one. -/
theorem witness_return :
    { State.reset with sp := 0xFE }.Stored (stackAddr (0xFE + 1)) ∧
      { State.reset with sp := 0xFE }.Stored (stackAddr (0xFE + 2)) ∧
      { State.reset with sp := 0xFE }.Stored (stackAddr (0xFE + 3)) := by decide

theorem witness_break : State.reset.WordStored State.reset.params.brkVector := by decide

theorem witness_push :
    ((0x48 : Byte) = 0x48 ∧ Instr.pha = .pha ∧ [State.reset.a] = [State.reset.a]) ∧
      ((0x22 : Byte) = 0x22 ∧ Instr.psh = .psh ∧
        [State.reset.a, State.reset.x, State.reset.y] =
          [State.reset.a, State.reset.x, State.reset.y]) := by decide

theorem witness_pull :
    { State.reset with sp := 0xFF }.Stored (stackAddr (0xFF + 1)) ∧
      { State.reset with sp := 0xFF }.Stored (stackAddr (0xFF + 3)) := by decide

theorem witness_pullIA :
    { State.reset with sp := 0xFD }.Stored (stackAddr (0xFD + 1)) ∧
      { State.reset with sp := 0xFD }.Stored (stackAddr (0xFD + 2)) ∧
      { State.reset with sp := 0xFD }.Stored 0xFFFF := by decide

/-- The stack wraps in page one in the middle of the call. -/
theorem witness_callThenReturn :
    ∃ s t : State, s.kindAt (stackAddr s.sp) = .ram ∧ s.kindAt (stackAddr (s.sp - 1)) = .ram ∧
      exec (.jsr 0x3000) s = .next t :=
  ⟨mapped { State.reset with sp := 0 }, _, by decide, by decide, rfl⟩

theorem witness_pushThenPull :
    ∃ s t : State, s.kindAt (stackAddr s.sp) = .ram ∧ s.kindAt (stackAddr (s.sp - 1)) = .ram ∧
      s.kindAt (stackAddr (s.sp - 2)) = .ram ∧ exec .psh s = .next t :=
  ⟨mapped { State.reset with sp := 1 }, _, by decide, by decide, by decide, rfl⟩

theorem witness_pushThenPull_words :
    (∃ t : State, exec .phw { State.reset with sp := 0 } = .next t) ∧
      ∃ t : State, exec .phi { State.reset with sp := 0 } = .next t := ⟨⟨_, rfl⟩, ⟨_, rfl⟩⟩

/-- The pointers of NXT, LII, LAI and LAN with I at the top of the address space, and of JPI. -/
theorem witness_threadedCode :
    { State.reset with ireg := 0xFFFF }.WordStored 0xFFFF ∧
      { State.reset with ireg := 0xFFFF }.Stored 0xFFFF ∧ State.reset.WordStored 0x30FF := by decide

/-- Every clause, at the flags of `State.reset`: op code, instruction and the P that it leaves. -/
theorem witness_flagInstruction :
    [0x18, 0xD8, 0x58, 0xB8, 0x38, 0xF8, 0x78, 0xEA].map (fun op : Byte => whole [op]) =
        List.map some [.clc, .cld, .cli, .clv, .sec, .sed, .sei, .nop] ∧
      { clearFlags with c := false } = { State.reset.p with c := false } ∧
      { clearFlags with d := false } = { State.reset.p with d := false } ∧
      { clearFlags with i := false } = { State.reset.p with i := false } ∧
      { clearFlags with v := false } = { State.reset.p with v := false } ∧
      { clearFlags with c := true } = { State.reset.p with c := true } ∧
      { clearFlags with d := true } = { State.reset.p with d := true } ∧
      { clearFlags with i := true } = { State.reset.p with i := true } ∧
      clearFlags = State.reset.p := by decide

theorem witness_nonMaskableInterrupt :
    { at_ 0x2200 [0xEA] [] with nmiPending := true }.resetPending = false ∧
      { at_ 0x2200 [0xEA] [] with nmiPending := true }.nmiPending = true ∧
      { at_ 0x2200 [0xEA] [] with nmiPending := true }.WordStored 0xFFFC := by decide

/-- The second source requests and the first does not. -/
theorem witness_maskableInterrupt :
    ∃ (s : State) (before after : List IrqLine) (line : IrqLine),
      s.resetPending = false ∧ s.nmiPending = false ∧ s.p.i = false ∧
      s.irqs = before ++ line :: after ∧ (∀ l ∈ before, l.pending = false) ∧
      line.pending = true ∧ s.WordStored line.vector :=
  ⟨{ at_ 0x2200 [0xEA] [] with
      p := { clearFlags with i := false }, irqs := twoSources false true },
    [{ name := "IRQ0", vector := 0xFFFA, pending := false }], [],
    { name := "IRQ1", vector := 0xFFF8, pending := true },
    rfl, rfl, rfl, rfl, by decide, rfl, by decide⟩

/-- A masked request, an NMI over an unmasked one, and a source that does not request. -/
theorem witness_requestsStay :
    (∃ s t : State, step s = .next t ∧ s.resetPending = false ∧ s.p.i = true ∧
      (s.irqs[1]?).map IrqLine.pending = some false) ∧
    ∃ s t : State, step s = .next t ∧ s.resetPending = false ∧ s.nmiPending = true ∧
      s.p.i = false :=
  ⟨⟨{ at_ 0x2200 [0xEA] [] with irqs := twoSources true false }, _, rfl, rfl, rfl, rfl⟩,
    ⟨{ at_ 0x2200 [0xEA] [] with
        p := { clearFlags with i := false }, nmiPending := true, irqs := twoSources true false },
      _, rfl, rfl, rfl, rfl⟩⟩

/-- The frame wraps in page one. -/
theorem witness_interruptThenReturn :
    ∃ s t : State, s.resetPending = false ∧ s.nmiPending = true ∧
      s.kindAt (stackAddr s.sp) = .ram ∧ s.kindAt (stackAddr (s.sp - 1)) = .ram ∧
      s.kindAt (stackAddr (s.sp - 2)) = .ram ∧ step s = .next t :=
  ⟨mapped { State.reset with sp := 1, nmiPending := true }, _, rfl, rfl, by decide, by decide,
    by decide, rfl⟩

theorem witness_startSequence :
    State.reset.requestReset.resetPending = true ∧ State.reset.requestReset.WordStored 0xFFFE := by
  decide

/-- An instruction that answers a next state, for the statements over every instruction. -/
theorem witness_everyInstruction :
    ∃ (i : Instr) (s t : State), exec i s = .next t ∧ (0x0200 : Word) ∉ storesTo s i :=
  ⟨.psh, { State.reset with sp := 1 }, _, rfl, by decide⟩

theorem witness_platformAndBreakFlag :
    ∃ s t : State, step s = .next t ∧ s.resetPending = false ∧ s.p.b = true :=
  ⟨{ at_ 0x2200 [0x28] [] with p := { clearFlags with b := true } }, _, rfl, rfl, rfl⟩

end Sys2Proof.Tests
end

section
/-! What no instruction but BRK touches, what one step can be, and O60. -/

namespace Sys2Proof.Machine

/-! ### The standing part of the state -/

/-- What an instruction finds and leaves in place: the parameters (R2), the sources and the
pending requests (R26, R302), and B, which only BRK sets (R17). -/
structure Standing where
  params : Params
  irqs : List IrqLine
  nmiPending : Bool
  resetPending : Bool
  b : Bool

/-- The standing part of a state. -/
def State.standing (s : State) : Standing :=
  { params := s.params, irqs := s.irqs, nmiPending := s.nmiPending,
    resetPending := s.resetPending, b := s.p.b }

theorem State.standing_eq_iff (s t : State) :
    t.standing = s.standing ↔
      t.params = s.params ∧ t.irqs = s.irqs ∧ t.nmiPending = s.nmiPending ∧
        t.resetPending = s.resetPending ∧ t.p.b = s.p.b :=
  Standing.mk.injEq .. |>.to_iff

/-! ### Register updates and bus accesses keep it -/

@[simp] theorem State.setA_standing (s : State) (v : Byte) :
    (s.setA v).standing = s.standing := rfl
@[simp] theorem State.setX_standing (s : State) (v : Byte) :
    (s.setX v).standing = s.standing := rfl
@[simp] theorem State.setY_standing (s : State) (v : Byte) :
    (s.setY v).standing = s.standing := rfl
@[simp] theorem State.setSp_standing (s : State) (v : Byte) :
    (s.setSp v).standing = s.standing := rfl
@[simp] theorem State.setW_standing (s : State) (v : Word) :
    (s.setW v).standing = s.standing := rfl
@[simp] theorem State.setIreg_standing (s : State) (v : Word) :
    (s.setIreg v).standing = s.standing := rfl
@[simp] theorem State.setPc_standing (s : State) (v : Word) :
    (s.setPc v).standing = s.standing := rfl
@[simp] theorem State.advance_standing (s : State) (n : Nat) :
    (s.advance n).standing = s.standing := rfl
@[simp] theorem State.tick_standing (s : State) (n : Nat) :
    (s.tick n).standing = s.standing := rfl
@[simp] theorem State.useDraws_standing (s : State) (n : Nat) :
    (s.useDraws n).standing = s.standing := rfl
@[simp] theorem State.draw_standing (s : State) : s.draw.2.standing = s.standing := rfl
@[simp] theorem State.touch_standing (s : State) (a : Word) :
    (s.touch a).standing = s.standing := rfl
@[simp] theorem State.read_standing (s : State) (a : Word) :
    (s.read a).2.standing = s.standing := rfl
@[simp] theorem State.write_standing (s : State) (a : Word) (v : Byte) :
    (s.write a v).standing = s.standing := rfl
@[simp] theorem State.push_standing (s : State) (v : Byte) :
    (s.push v).standing = s.standing := rfl
@[simp] theorem State.pull_standing (s : State) : s.pull.2.standing = s.standing := rfl

/-- Writing P writes B and nothing else of the standing part. -/
@[simp] theorem State.setP_standing (s : State) (p : Status) :
    (s.setP p).standing = { s.standing with b := p.b } := rfl

@[simp] theorem State.standing_with_own_b (s : State) :
    { s.standing with b := s.p.b } = s.standing := rfl

@[simp] theorem restoreP_b (v : Byte) (p : Status) : (restoreP v p).b = p.b := rfl

/-! ### Accesses of more than one byte -/

@[simp] theorem State.touchTimes_standing (n : Nat) (s : State) (a : Word) :
    (State.touchTimes n s a).standing = s.standing := by
  simp [State.standing]

@[simp] theorem State.read16_standing (s : State) (a : Word) :
    (s.read16 a).2.standing = s.standing := by
  simp [State.read16]

@[simp] theorem State.push16_standing (s : State) (v : Word) :
    (s.push16 v).standing = s.standing := by
  simp [State.push16]

@[simp] theorem State.pull16_standing (s : State) : s.pull16.2.standing = s.standing := by
  simp [State.pull16]

@[simp] theorem State.operand_standing (s : State) (o : Operand) :
    (s.operand o).2.standing = s.standing := by
  simp [State.standing]

/-! ### The shared operations of the instructions -/

@[simp] theorem State.implied_standing (s : State) : s.implied.standing = s.standing := by
  simp [State.implied]

@[simp] theorem State.loadA_standing (s : State) (v : Byte) :
    (s.loadA v).standing = s.standing := by
  simp [State.loadA]

@[simp] theorem State.loadX_standing (s : State) (v : Byte) :
    (s.loadX v).standing = s.standing := by
  simp [State.loadX]

@[simp] theorem State.loadY_standing (s : State) (v : Byte) :
    (s.loadY v).standing = s.standing := by
  simp [State.loadY]

theorem State.withOperand_standing (s : State) (o : Operand) {f : State → Byte → State}
    (hf : ∀ u m, (f u m).standing = u.standing) :
    (s.withOperand o f).standing = s.standing := by
  simp [State.withOperand, hf]

theorem State.addTo_standing (s : State) (m : Byte) (cin : Bool) :
    (s.addTo m cin).standing = s.standing := by
  unfold State.addTo
  split <;> simp

theorem State.subtractFrom_standing (s : State) (m : Byte) (cin : Bool) :
    (s.subtractFrom m cin).standing = s.standing := by
  unfold State.subtractFrom
  split <;> simp

@[simp] theorem State.storeTo_standing (s : State) (m : Mode) (v : Byte) :
    (s.storeTo m v).standing = s.standing := by
  simp [State.standing]

@[simp] theorem State.exchange_zpX_standing (s : State) (n : Byte) :
    (s.exchange (.zpX n)).standing = s.standing := by
  simp [State.exchange, State.resolve]

theorem State.modify_standing (s : State) (m : Mode) {f : Byte → Status → Byte × Status}
    (hf : ∀ v p, (f v p).2.b = p.b) : (s.modify m f).standing = s.standing := by
  simp [State.standing, State.modify_p, hf]

theorem State.modifyA_standing (s : State) {f : Byte → Status → Byte × Status}
    (hf : ∀ v p, (f v p).2.b = p.b) : (s.modifyA f).standing = s.standing := by
  simp [State.modifyA, hf]

@[simp] theorem State.changeByte_standing (s : State) (ea : Word) (f : Byte → Byte) :
    (s.changeByte ea f).standing = s.standing := by
  simp [State.changeByte, State.modifyAt]

@[simp] theorem State.changeBit_standing (s : State) (n : Byte) (f : Byte → Byte) :
    (s.changeBit n f).standing = s.standing := by
  simp [State.changeBit]

@[simp] theorem State.maskBits_standing (s : State) (nn : Word) (f : Byte → Byte) :
    (s.maskBits nn f).standing = s.standing := by
  simp [State.maskBits]

@[simp] theorem State.branch_standing (s : State) (cond : Bool) (r : Byte) :
    (s.branch cond r).standing = s.standing := by
  simp [State.standing]

@[simp] theorem State.bitBranch_standing (s : State) (cond : Bool) (len : Nat) (r : Byte) :
    (s.bitBranch cond len r).standing = s.standing := by
  simp [State.standing]

@[simp] theorem State.testBit_standing (s : State) (n : Byte) (cond : Byte → Bool) (r : Byte) :
    (s.testBit n cond r).standing = s.standing := by
  simp [State.testBit]

@[simp] theorem State.maskBranch_standing (s : State) (nn : Word) (cond : Byte → Bool)
    (r : Byte) : (s.maskBranch nn cond r).standing = s.standing := by
  simp [State.maskBranch]

@[simp] theorem State.multiply_standing (s : State) : s.multiply.standing = s.standing := by
  simp [State.multiply, State.impliedMultiply]

@[simp] theorem State.multiplyAccumulate_standing (s : State) :
    s.multiplyAccumulate.standing = s.standing := by
  simp [State.multiplyAccumulate, State.impliedMultiply]

/-- RND draws a free Y only when the rounding overflows. -/
@[simp] theorem State.round_standing (s : State) : s.round.standing = s.standing := by
  unfold State.round State.roundY
  split <;> simp

@[simp] theorem State.jumpThrough_standing (s : State) (ptr : Word) :
    (s.jumpThrough ptr).standing = s.standing := by
  simp [State.jumpThrough]

@[simp] theorem State.jumpIndexed_standing (s : State) (nn : Word) :
    (s.jumpIndexed nn).standing = s.standing := by
  simp [State.jumpIndexed]

@[simp] theorem State.jumpVector_standing (s : State) (n : Fin 8) :
    (s.jumpVector n).standing = s.standing := by
  simp [State.jumpVector]

@[simp] theorem State.jumpSavingI_standing (s : State) (ia : Word) :
    (s.jumpSavingI ia).standing = s.standing := by
  simp [State.jumpSavingI]

@[simp] theorem State.returnFromSubroutine_standing (s : State) :
    s.returnFromSubroutine.standing = s.standing := by
  simp [State.returnFromSubroutine]

@[simp] theorem State.returnFromException_standing (s : State) :
    s.returnFromException.standing = s.standing := by
  simp [State.returnFromException]

@[simp] theorem State.pullA_standing (s : State) : s.pullA.standing = s.standing := by
  simp [State.pullA, State.impliedPull]

@[simp] theorem State.pullX_standing (s : State) : s.pullX.standing = s.standing := by
  simp [State.pullX, State.impliedPull]

@[simp] theorem State.pullY_standing (s : State) : s.pullY.standing = s.standing := by
  simp [State.pullY, State.impliedPull]

@[simp] theorem State.pullP_standing (s : State) : s.pullP.standing = s.standing := by
  simp [State.pullP, State.impliedPull]

@[simp] theorem State.pullW_standing (s : State) : s.pullW.standing = s.standing := by
  simp [State.pullW, State.impliedPull]

@[simp] theorem State.pullI_standing (s : State) : s.pullI.standing = s.standing := by
  simp [State.pullI, State.impliedPull]

@[simp] theorem State.pullYXA_standing (s : State) : s.pullYXA.standing = s.standing := by
  simp [State.pullYXA, State.impliedPull]

/-- PIA writes X too where `PIA_LOADS_X`. -/
@[simp] theorem State.pullIA_standing (s : State) : s.pullIA.standing = s.standing := by
  unfold State.pullIA
  dsimp only
  split <;> simp [State.impliedPull]

@[simp] theorem State.readThroughI_standing (s : State) :
    s.readThroughI.2.standing = s.standing := by
  simp [State.readThroughI]

@[simp] theorem State.nextInstruction_standing (s : State) :
    s.nextInstruction.standing = s.standing := by
  simp [State.nextInstruction]

@[simp] theorem State.loadIIndirect_standing (s : State) :
    s.loadIIndirect.standing = s.standing := by
  simp [State.loadIIndirect]

/-- Taking an exception sets B where it is told to, and keeps the rest. -/
theorem State.takeException_standing (s : State) (ret vector : Word) (setB : Bool) :
    (s.takeException ret vector setB).standing = { s.standing with b := s.p.b || setB } := by
  simp [State.standing]

theorem State.interruptSequence_standing (s : State) (vector : Word) :
    (s.interruptSequence vector).standing = s.standing := by
  simp [State.standing, State.interruptSequence]

/-! ### The instructions -/

/-- Every instruction but BRK completes and keeps the standing part.  The groups named here pass
a function to a shared operation, and the function has to keep that part too; the meaning of every
other instruction is put together from the operations above. -/
theorem exec_standing (i : Instr) (s : State) (hi : i ≠ .brk) :
    ∃ t, exec i s = .next t ∧ t.standing = s.standing := by
  cases i with
  | brk => exact absurd rfl hi
  | ldaInd | ldaZp | ldaImm | ldaAbs | ldaIndX | ldaZpX | ldaAbsY | ldaAbsX
  | ldxImm | ldxZp | ldxAbs | ldxZpY | ldxAbsY | ldyImm | ldyZp | ldyAbs | ldyZpX | ldyAbsX
  | andInd | andZp | andImm | andAbs | andIndX | andZpX | andAbsY | andAbsX
  | oraInd | oraZp | oraImm | oraAbs | oraIndX | oraZpX | oraAbsY | oraAbsX
  | eorInd | eorZp | eorImm | eorAbs | eorIndX | eorZpX | eorAbsY | eorAbsX
  | bitZp | bitAbs
  | cmpInd | cmpZp | cmpImm | cmpAbs | cmpIndX | cmpZpX | cmpAbsY | cmpAbsX
  | cpxImm | cpxZp | cpxAbs | cpyImm | cpyZp | cpyAbs =>
    exact ⟨_, rfl, s.withOperand_standing _ fun _ _ => rfl⟩
  | adcInd | adcZp | adcImm | adcAbs | adcIndX | adcZpX | adcAbsY | adcAbsX
  | addZp | addZpX | addImm =>
    exact ⟨_, rfl, s.withOperand_standing _ fun u m => u.addTo_standing m _⟩
  | sbcInd | sbcZp | sbcImm | sbcAbs | sbcIndX | sbcZpX | sbcAbsY | sbcAbsX =>
    exact ⟨_, rfl, s.withOperand_standing _ fun u m => u.subtractFrom_standing m _⟩
  | incZp | incAbs | incZpX | incAbsX | decZp | decAbs | decZpX | decAbsX
  | aslZp | aslAbs | aslZpX | aslAbsX | lsrZp | lsrAbs | lsrZpX | lsrAbsX
  | rolZp | rolAbs | rolZpX | rolAbsX | rorZp | rorAbs | rorZpX | rorAbsX =>
    exact ⟨_, rfl, s.modify_standing _ fun _ _ => rfl⟩
  | aslA | lsrA | rolA | rorA | asrA | negA =>
    exact ⟨_, rfl, s.modifyA_standing fun _ _ => rfl⟩
  | labA => exact ⟨_, rfl, (s.touch (s.pc + 1)).modifyA_standing fun _ _ => rfl⟩
  | _ => exact ⟨_, rfl, by simp⟩

/-- BRK sets B and keeps the rest of the standing part (R237, R301). -/
theorem exec_brk_standing (s : State) :
    ∃ t, exec .brk s = .next t ∧ t.standing = { s.standing with b := true } := by
  refine ⟨s.softwareBreak, rfl, ?_⟩
  rw [State.softwareBreak, State.takeException_standing, State.touch_standing, Bool.or_true]

/-- No instruction changes the parameters or the sources, and none clears B. -/
theorem exec_keeps_platform {i : Instr} {s t : State} (h : exec i s = .next t) :
    t.params = s.params ∧ t.irqs = s.irqs ∧ (s.p.b = true → t.p.b = true) := by
  by_cases hi : i = .brk
  · subst hi
    obtain ⟨u, hu, hs⟩ := exec_brk_standing s
    obtain rfl : u = t := by simpa [hu] using h
    exact ⟨congrArg Standing.params hs, congrArg Standing.irqs hs,
      fun _ => congrArg Standing.b hs⟩
  · obtain ⟨u, hu, hs⟩ := exec_standing i s hi
    obtain rfl : u = t := by simpa [hu] using h
    obtain ⟨hparams, hirqs, -, -, hb⟩ := (s.standing_eq_iff u).mp hs
    exact ⟨hparams, hirqs, hb.trans⟩

/-! ### The step -/

/-- Fetching the operand bytes changes only the record of the bus. -/
theorem State.fetchOperands_only_bus (s : State) (a : Word) (sh : Shape) :
    ∃ b : Bus, (s.fetchOperands a sh).2 = { s with bus := b } := by
  cases sh <;> exact ⟨_, rfl⟩

/-- Fetching an instruction changes only the record of the bus. -/
theorem State.fetch_only_bus (s : State) : ∃ b : Bus, s.fetch.2 = { s with bus := b } :=
  (s.touch s.pc).fetchOperands_only_bus (s.pc + 1) (shapeOf (s.peek s.pc))

/-- What was fetched runs on only as an instruction (R76). -/
theorem runFetched_eq_next {s t : State} {r : Option Instr × State}
    (h : runFetched s r = .next t) : ∃ i, r.1 = some i ∧ exec i r.2 = .next t := by
  obtain ⟨_ | i, u⟩ := r
  · cases h
  · exact ⟨i, rfl, h⟩

/-- What a step can be, in the order of priority (R304, R309, D13). -/
theorem step_cases {s t : State} (h : step s = .next t) :
    (s.resetPending = true ∧ t = s.startSequence) ∨
    (s.resetPending = false ∧ s.nmiPending = true ∧
      t = { s with nmiPending := false }.interruptSequence nmiVector) ∨
    (∃ vector irqs, s.resetPending = false ∧ s.nmiPending = false ∧
      s.maskableRequest = some (vector, irqs) ∧
      t = { s with irqs := irqs }.interruptSequence vector) ∨
    (∃ i, s.resetPending = false ∧ s.nmiPending = false ∧ s.maskableRequest = none ∧
      s.fetch.1 = some i ∧ exec i s.fetch.2 = .next t) := by
  unfold step at h
  split at h
  next hr => exact .inl ⟨hr, by simpa using h.symm⟩
  next hr =>
    have hr := Bool.eq_false_iff.mpr hr
    split at h
    next hn => exact .inr (.inl ⟨hr, hn, by simpa using h.symm⟩)
    next hn =>
      have hn := Bool.eq_false_iff.mpr hn
      split at h
      next vector irqs hq =>
        exact .inr (.inr (.inl ⟨vector, irqs, hr, hn, hq, by simpa using h.symm⟩))
      next hq =>
        obtain ⟨i, hi, he⟩ := runFetched_eq_next h
        exact .inr (.inr (.inr ⟨i, hr, hn, hq, hi, he⟩))

/-! ### The names and vectors of the sources -/

/-- Taking a request clears a pending bit and keeps names, vectors and order. -/
theorem takeFirstPending_names {ls ls' : List IrqLine} {v : Word}
    (h : takeFirstPending ls = some (v, ls')) :
    ls'.map (fun l => (l.name, l.vector)) = ls.map (fun l => (l.name, l.vector)) := by
  induction ls generalizing ls' with
  | nil => cases h
  | cons l ls ih =>
    unfold takeFirstPending at h
    split at h
    · cases h
      rfl
    · obtain ⟨⟨w, rest⟩, hrest, heq⟩ := Option.map_eq_some_iff.mp h
      cases heq
      simp [ih hrest]

theorem State.maskableRequest_names {s : State} {v : Word} {irqs : List IrqLine}
    (h : s.maskableRequest = some (v, irqs)) :
    irqs.map (fun l => (l.name, l.vector)) = s.irqs.map (fun l => (l.name, l.vector)) := by
  unfold State.maskableRequest at h
  split at h
  · cases h
  · exact takeFirstPending_names h

/-- The start sequence clears every pending bit of the sources and nothing else of them (D13). -/
theorem State.startSequence_irqs (s : State) :
    s.startSequence.irqs = s.irqs.map fun l => { l with pending := false } := by
  obtain ⟨b, h, -⟩ := s.startReads_only_bus
  simp [State.startSequence, State.unspecifyRegisters, State.setPc, State.read16_snd, h]

/-- Settles O60, by the four kinds of step: the start sequence, an NMI, a maskable request and an
instruction. -/
theorem platformAndBreakFlagKept : Obligations.PlatformAndBreakFlagKept := by
  intro s t h
  obtain ⟨hreset, rfl⟩ | ⟨-, -, rfl⟩ | ⟨vector, irqs, -, -, hreq, rfl⟩ | ⟨i, -, -, -, -, he⟩ :=
    step_cases h
  case inl =>
    obtain ⟨-, hparams, -⟩ := s.startSequence_frame
    refine ⟨hparams, by simp [State.startSequence_irqs], fun hno => ?_⟩
    rw [hreset] at hno
    cases hno
  case inr.inl =>
    have hs := { s with nmiPending := false }.interruptSequence_standing nmiVector
    obtain ⟨hparams, hirqs, -, -, hb⟩ := (State.standing_eq_iff _ _).mp hs
    exact ⟨hparams, congrArg _ hirqs, fun _ => hb.trans⟩
  case inr.inr.inl =>
    have hs := { s with irqs := irqs }.interruptSequence_standing vector
    obtain ⟨hparams, hirqs, -, -, hb⟩ := (State.standing_eq_iff _ _).mp hs
    exact ⟨hparams, (congrArg _ hirqs).trans (State.maskableRequest_names hreq),
      fun _ => hb.trans⟩
  case inr.inr.inr =>
    obtain ⟨b, hf⟩ := s.fetch_only_bus
    rw [hf] at he
    obtain ⟨hparams, hirqs, hb⟩ := exec_keeps_platform he
    exact ⟨hparams, congrArg _ hirqs, fun _ => hb⟩

end Sys2Proof.Machine
end

section
/-! The registers of R10 but for PC: what each shared operation makes of them, the tables of R10 and
R29 read as one equation about them, and O15, O50, O56, O57. -/

namespace Sys2Proof.Machine

/-! ### The state after reset -/

/-- Memory lists nothing after reset, so every byte reads as an unlisted one (log entry 2). -/
theorem State.reset_byteAt (a : Word) : State.reset.byteAt a = Memory.unlisted := rfl

theorem State.reset_pc : State.reset.pc = State.reset.wordAt 0xFFFE := by
  rw [State.wordAt, State.reset_byteAt, State.reset_byteAt]
  rfl

theorem State.reset_no_source_pending : ∀ l ∈ State.reset.irqs, l.pending = false := by
  have hnone : State.reset.irqs = [] := rfl
  simp [hnone]

/-- Settles O15: field by field of the constant `State.reset`. -/
theorem resetStateAsGiven : Obligations.ResetStateAsGiven :=
  ⟨rfl, rfl, rfl, rfl, State.reset_no_source_pending, State.reset_pc, rfl, rfl⟩

/-! ### The byte that stands for P -/

/-- A flag placed at bit `k` is seen at bit `k` alone. -/
theorem bitOf_flagBit (f : Bool) (k : Nat) (b : Fin 8) :
    bitOf (flagBit f k) b = (f && decide (b.val = k)) := by
  cases f
  · simp [bitOf, flagBit]
  · have hlt := b.isLt
    rw [Bool.eq_iff_iff]
    simp [bitOf, flagBit]
    omega

theorem bitOf_or (u v : Byte) (b : Fin 8) : bitOf (u ||| v) b = (bitOf u b || bitOf v b) := by
  simp [bitOf]

/-- Every bit of the pushed byte: the flag that is placed there (R14, R250). -/
theorem bitOf_pByte (bit5 : Bool) (p : Status) (b : Fin 8) :
    bitOf (pByte bit5 p) b =
      match b with
      | 7 => p.n | 6 => p.v | 5 => bit5 | 4 => p.b | 3 => p.d | 2 => p.i | 1 => p.z | 0 => p.c := by
  simp only [pByte, bitOf_or, bitOf_flagBit]
  fin_cases b <;> simp

/-- Settles O50: bit by bit, and the round trip of `restoreP_pByte`. -/
theorem statusByteLayout : Obligations.StatusByteLayout := fun bit5 p q =>
  ⟨bitOf_pByte bit5 p 7, bitOf_pByte bit5 p 6, bitOf_pByte bit5 p 5, bitOf_pByte bit5 p 4,
    bitOf_pByte bit5 p 3, bitOf_pByte bit5 p 2, bitOf_pByte bit5 p 1, bitOf_pByte bit5 p 0,
    restoreP_pByte bit5 p q⟩

/-! ### The registers but for PC -/

/-- The registers of R10 that an instruction writes by name: all but PC. -/
structure Registers where
  a : Byte
  x : Byte
  y : Byte
  sp : Byte
  w : Word
  ireg : Word
  p : Status

/-- The registers of a state but for PC. -/
def State.registers (s : State) : Registers :=
  { a := s.a, x := s.x, y := s.y, sp := s.sp, w := s.w, ireg := s.ireg, p := s.p }

/-- X is read where a write of it depends on a parameter (PIA). -/
theorem State.registers_x (s : State) : s.registers.x = s.x := rfl

/-! ### Register updates and bus accesses -/

@[simp] theorem State.setA_registers (s : State) (v : Byte) :
    (s.setA v).registers = { s.registers with a := v } := rfl
@[simp] theorem State.setX_registers (s : State) (v : Byte) :
    (s.setX v).registers = { s.registers with x := v } := rfl
@[simp] theorem State.setY_registers (s : State) (v : Byte) :
    (s.setY v).registers = { s.registers with y := v } := rfl
@[simp] theorem State.setSp_registers (s : State) (v : Byte) :
    (s.setSp v).registers = { s.registers with sp := v } := rfl
@[simp] theorem State.setW_registers (s : State) (v : Word) :
    (s.setW v).registers = { s.registers with w := v } := rfl
@[simp] theorem State.setIreg_registers (s : State) (v : Word) :
    (s.setIreg v).registers = { s.registers with ireg := v } := rfl
@[simp] theorem State.setP_registers (s : State) (v : Status) :
    (s.setP v).registers = { s.registers with p := v } := rfl
@[simp] theorem State.setPc_registers (s : State) (v : Word) :
    (s.setPc v).registers = s.registers := rfl
@[simp] theorem State.advance_registers (s : State) (n : Nat) :
    (s.advance n).registers = s.registers := rfl
@[simp] theorem State.tick_registers (s : State) (n : Nat) :
    (s.tick n).registers = s.registers := rfl
@[simp] theorem State.useDraws_registers (s : State) (n : Nat) :
    (s.useDraws n).registers = s.registers := rfl
@[simp] theorem State.draw_registers (s : State) : s.draw.2.registers = s.registers := rfl
@[simp] theorem State.touch_registers (s : State) (a : Word) :
    (s.touch a).registers = s.registers := rfl
@[simp] theorem State.read_registers (s : State) (a : Word) :
    (s.read a).2.registers = s.registers := rfl
@[simp] theorem State.write_registers (s : State) (a : Word) (v : Byte) :
    (s.write a v).registers = s.registers := rfl
@[simp] theorem State.push_registers (s : State) (v : Byte) :
    (s.push v).registers = { s.registers with sp := s.sp - 1 } := rfl
@[simp] theorem State.pull_registers (s : State) :
    s.pull.2.registers = { s.registers with sp := s.sp + 1 } := rfl

/-! ### Accesses of more than one byte -/

@[simp] theorem State.touchTimes_registers (n : Nat) (s : State) (a : Word) :
    (State.touchTimes n s a).registers = s.registers := by
  simp [State.registers]

@[simp] theorem State.read16_registers (s : State) (a : Word) :
    (s.read16 a).2.registers = s.registers := by
  simp [State.read16]

@[simp] theorem State.push16_registers (s : State) (v : Word) :
    (s.push16 v).registers = { s.registers with sp := s.sp - 1 - 1 } := by
  simp [State.push16]

@[simp] theorem State.pull16_registers (s : State) :
    s.pull16.2.registers = { s.registers with sp := s.sp + 1 + 1 } := by
  simp [State.pull16]

@[simp] theorem State.resolve_registers (s : State) (k : Access) (m : Mode) :
    (s.resolve k m).2.registers = s.registers := by
  simp [State.registers]

@[simp] theorem State.operand_registers (s : State) (o : Operand) :
    (s.operand o).2.registers = s.registers := by
  simp [State.registers]

/-! ### Loads, stores, arithmetic -/

@[simp] theorem State.implied_registers (s : State) : s.implied.registers = s.registers := by
  simp [State.implied]

@[simp] theorem State.loadA_registers (s : State) (v : Byte) :
    (s.loadA v).registers = { s.registers with a := v, p := s.p.setNZ v } := by
  simp [State.loadA]

@[simp] theorem State.loadX_registers (s : State) (v : Byte) :
    (s.loadX v).registers = { s.registers with x := v, p := s.p.setNZ v } := by
  simp [State.loadX]

@[simp] theorem State.loadY_registers (s : State) (v : Byte) :
    (s.loadY v).registers = { s.registers with y := v, p := s.p.setNZ v } := by
  simp [State.loadY]

theorem State.addTo_registers (s : State) (m : Byte) (cin : Bool) :
    ∃ o : AluResult,
      (s.addTo m cin).registers = { s.registers with a := o.r, p := s.p.setAlu o } := by
  unfold State.addTo
  split
  · exact ⟨addDec s.a m cin s.bus.draws, by simp⟩
  · exact ⟨addBin s.a m cin, by simp⟩

theorem State.subtractFrom_registers (s : State) (m : Byte) (cin : Bool) :
    ∃ o : AluResult,
      (s.subtractFrom m cin).registers = { s.registers with a := o.r, p := s.p.setAlu o } := by
  unfold State.subtractFrom
  split
  · exact ⟨subDec s.a m cin s.bus.draws, by simp⟩
  · exact ⟨subBin s.a m cin, by simp⟩

@[simp] theorem State.withOperand_registers (s : State) (o : Operand) (f : State → Byte → State) :
    (s.withOperand o f).registers = (f (s.operand o).2 (s.operand o).1).registers := by
  simp [State.withOperand]

@[simp] theorem State.storeTo_registers (s : State) (m : Mode) (v : Byte) :
    (s.storeTo m v).registers = s.registers := by
  simp [State.storeTo]

/-- EXC writes no flag (R137). -/
@[simp] theorem State.exchange_registers (s : State) (m : Mode) :
    (s.exchange m).registers = { s.registers with a := (s.exchange m).a } := by
  simp [State.exchange]

/-! ### Read/modify/write and bit manipulation -/

@[simp] theorem State.modifyAt_registers (s : State) (ea : Word)
    (f : Byte → Status → Byte × Status) :
    (s.modifyAt ea f).registers = { s.registers with p := (f (s.peek ea) s.p).2 } := by
  simp [State.modifyAt]

@[simp] theorem State.modify_registers (s : State) (m : Mode)
    (f : Byte → Status → Byte × Status) :
    (s.modify m f).registers =
      { s.registers with
        p := (f ((s.resolve .write m).2.peek (s.resolve .write m).1) s.p).2 } := by
  simp [State.modify]

@[simp] theorem State.modifyA_registers (s : State) (f : Byte → Status → Byte × Status) :
    (s.modifyA f).registers = { s.registers with a := (f s.a s.p).1, p := (f s.a s.p).2 } := by
  simp [State.modifyA]

@[simp] theorem State.changeByte_registers (s : State) (ea : Word) (f : Byte → Byte) :
    (s.changeByte ea f).registers = s.registers := by
  rw [State.changeByte, State.modifyAt_registers]
  rfl

@[simp] theorem State.changeBit_registers (s : State) (n : Byte) (f : Byte → Byte) :
    (s.changeBit n f).registers = s.registers := by
  simp [State.changeBit]

/-- RBA and SBA leave a free byte in A and write no flag (R212, R213). -/
@[simp] theorem State.maskBits_registers (s : State) (nn : Word) (f : Byte → Byte) :
    (s.maskBits nn f).registers = { s.registers with a := s.draw.1 } := by
  simp [State.maskBits]

/-! ### Branches, jumps, subroutines, exceptions -/

@[simp] theorem State.branch_registers (s : State) (cond : Bool) (r : Byte) :
    (s.branch cond r).registers = s.registers := by
  simp [State.registers]

@[simp] theorem State.bitBranch_registers (s : State) (cond : Bool) (len : Nat) (r : Byte) :
    (s.bitBranch cond len r).registers = s.registers := by
  simp [State.registers]

@[simp] theorem State.testBit_registers (s : State) (n : Byte) (cond : Byte → Bool) (r : Byte) :
    (s.testBit n cond r).registers = s.registers := by
  simp [State.testBit]

@[simp] theorem State.maskBranch_registers (s : State) (nn : Word) (cond : Byte → Bool)
    (r : Byte) : (s.maskBranch nn cond r).registers = s.registers := by
  simp [State.maskBranch]

@[simp] theorem State.jumpThrough_registers (s : State) (ptr : Word) :
    (s.jumpThrough ptr).registers = s.registers := by
  simp [State.jumpThrough]

@[simp] theorem State.jumpIndexed_registers (s : State) (nn : Word) :
    (s.jumpIndexed nn).registers = s.registers := by
  simp [State.jumpIndexed]

@[simp] theorem State.jumpVector_registers (s : State) (n : Fin 8) :
    (s.jumpVector n).registers = { s.registers with sp := s.sp - 1 - 1 } := by
  simp [State.jumpVector]

@[simp] theorem State.returnFromSubroutine_registers (s : State) :
    s.returnFromSubroutine.registers = { s.registers with sp := s.sp + 1 + 1 } := by
  simp [State.returnFromSubroutine]

@[simp] theorem State.takeException_registers (s : State) (ret vector : Word) (setB : Bool) :
    (s.takeException ret vector setB).registers =
      { s.registers with
        sp := s.sp - 1 - 1 - 1, p := { s.p with b := s.p.b || setB, i := true } } := by
  simp [State.takeException]

@[simp] theorem State.returnFromException_registers (s : State) :
    s.returnFromException.registers =
      { s.registers with sp := s.sp + 1 + 1 + 1, p := restoreP s.pull.1 s.p } := by
  simp [State.returnFromException]

/-- BRK sets B and I_flag (R237, R301). -/
@[simp] theorem State.softwareBreak_registers (s : State) :
    s.softwareBreak.registers =
      { s.registers with sp := s.sp - 1 - 1 - 1, p := { s.p with b := true, i := true } } := by
  simp [State.softwareBreak]

/-! ### Multiplication and W -/

@[simp] theorem State.impliedMultiply_registers (s : State) :
    s.impliedMultiply.registers = s.registers := by
  simp [State.impliedMultiply]

@[simp] theorem State.multiply_registers (s : State) :
    s.multiply.registers =
      { s.registers with
        a := hiByte (mpyWord s.a s.y), y := loByte (mpyWord s.a s.y)
        p := { s.p with n := (hiByte (mpyWord s.a s.y)).msb, v := false } } := by
  simp [State.multiply]

@[simp] theorem State.multiplyAccumulate_registers (s : State) :
    s.multiplyAccumulate.registers =
      { s.registers with
        w := (mpaWord s.w s.a s.y).1, y := s.multiplyAccumulate.y
        p := { s.p with n := (mpaWord s.w s.a s.y).1.msb, v := (mpaWord s.w s.a s.y).2 } } := by
  simp [State.multiplyAccumulate]

/-- Y is drawn only when the rounding overflows (R197). -/
@[simp] theorem State.roundY_registers (s : State) (w : Word) :
    (s.roundY w).registers = { s.registers with y := (s.roundY w).y } := by
  unfold State.roundY
  split <;> rfl

@[simp] theorem State.round_registers (s : State) :
    s.round.registers =
      { s.registers with
        a := rndByte s.w, y := s.round.y
        p := { s.p with n := (rndByte s.w).msb, v := rndOverflows s.w } } := by
  simp [State.round]

/-! ### Pushes, pulls and threaded code -/

/-- Three pushes, as PSH makes them (R258). -/
theorem State.push_push_push_registers (s : State) (u v w : Byte) :
    (((s.push u).push v).push w).registers = { s.registers with sp := s.sp - 1 - 1 - 1 } := by
  simp

@[simp] theorem State.impliedPull_registers (s : State) :
    s.impliedPull.registers = s.registers := by
  simp [State.impliedPull]

/-- PLA (R259). -/
@[simp] theorem State.pullA_registers (s : State) :
    s.pullA.registers =
      { s.registers with
        a := s.impliedPull.pull.1, sp := s.sp + 1, p := s.p.setNZ s.impliedPull.pull.1 } := by
  simp [State.pullA, State.impliedPull]

/-- PLX (R261). -/
@[simp] theorem State.pullX_registers (s : State) :
    s.pullX.registers =
      { s.registers with
        x := s.impliedPull.pull.1, sp := s.sp + 1, p := s.p.setNZ s.impliedPull.pull.1 } := by
  simp [State.pullX, State.impliedPull]

/-- PLY (R262). -/
@[simp] theorem State.pullY_registers (s : State) :
    s.pullY.registers =
      { s.registers with
        y := s.impliedPull.pull.1, sp := s.sp + 1, p := s.p.setNZ s.impliedPull.pull.1 } := by
  simp [State.pullY, State.impliedPull]

/-- PLP takes six flags from the byte and not B (R257, R260). -/
@[simp] theorem State.pullP_registers (s : State) :
    s.pullP.registers =
      { s.registers with sp := s.sp + 1, p := restoreP s.impliedPull.pull.1 s.p } := by
  simp [State.pullP, State.impliedPull]

@[simp] theorem State.pullW_registers (s : State) :
    s.pullW.registers =
      { s.registers with w := s.impliedPull.pull16.1, sp := s.sp + 1 + 1 } := by
  simp [State.pullW, State.impliedPull]

@[simp] theorem State.pullI_registers (s : State) :
    s.pullI.registers =
      { s.registers with ireg := s.impliedPull.pull16.1, sp := s.sp + 1 + 1 } := by
  simp [State.pullI, State.impliedPull]

/-- PUL loads three registers and writes no flag (R265). -/
@[simp] theorem State.pullYXA_registers (s : State) :
    s.pullYXA.registers =
      { s.registers with
        y := s.impliedPull.pull.1, x := s.impliedPull.pull.2.pull.1
        a := s.impliedPull.pull.2.pull.2.pull.1, sp := s.sp + 1 + 1 + 1 } := by
  simp [State.pullYXA, State.impliedPull]

/-- PIA writes X only where `PIA_LOADS_X` (R266, conflict C13). -/
theorem State.pullIA_registers (s : State) :
    ∃ m, s.pullIA.registers =
      { s.registers with
        a := m, x := if s.params.piaLoadsX then m else s.x, sp := s.sp + 1 + 1
        ireg := s.impliedPull.pull16.1 + 1, p := s.p.setNZ m } := by
  refine ⟨s.impliedPull.pull16.2.peek s.impliedPull.pull16.1, ?_⟩
  unfold State.pullIA
  dsimp only
  split <;> simp [State.impliedPull, State.read, State.registers_x]

/-- NXT steps I past both bytes (R270). -/
@[simp] theorem State.nextInstruction_registers (s : State) :
    s.nextInstruction.registers = { s.registers with ireg := s.ireg + 2 } := by
  simp [State.nextInstruction]

@[simp] theorem State.loadIIndirect_registers (s : State) :
    s.loadIIndirect.registers = { s.registers with ireg := (s.implied.read16 s.ireg).1 } := by
  simp [State.loadIIndirect]

@[simp] theorem State.jumpSavingI_registers (s : State) (ia : Word) :
    (s.jumpSavingI ia).registers = { s.registers with ireg := s.pc + 3 } := by
  simp [State.jumpSavingI]

/-! ### LSR clears N (R191) -/

/-- A byte shifted right by one has bit 7 clear. -/
theorem lsrByte_status (v : Byte) (p : Status) :
    (lsrByte v p).2 = { p with n := false, z := decide (v >>> 1 = 0), c := v.getLsbD 0 } := by
  simp [lsrByte, shifted, Status.setNZ]

theorem State.modify_lsr_registers (s : State) (m : Mode) :
    (s.modify m lsrByte).registers =
      { s.registers with
        p := { s.p with
          n := false
          z := decide ((s.resolve .write m).2.peek (s.resolve .write m).1 >>> 1 = 0)
          c := ((s.resolve .write m).2.peek (s.resolve .write m).1).getLsbD 0 } } := by
  rw [State.modify_registers, lsrByte_status]

theorem State.modifyA_lsr_registers (s : State) :
    (s.modifyA lsrByte).registers =
      { s.registers with
        a := s.a >>> 1
        p := { s.p with n := false, z := decide (s.a >>> 1 = 0), c := s.a.getLsbD 0 } } := by
  rw [State.modifyA_registers, lsrByte_status]
  rfl

/-! ### The tables of R10 and R29 as one equation -/

/-- What a flag holds after an effect: free only where the effect says that it changes. -/
def FlagEffect.outcome : FlagEffect → Bool → Bool → Bool
  | .same, before, _ => before
  | .changed, _, after => after
  | .cleared, _, _ => false
  | .set, _, _ => true

theorem FlagEffect.allows_iff (e : FlagEffect) (before after : Bool) :
    e.Allows before after ↔ after = e.outcome before after := by
  cases e <;> simp [FlagEffect.Allows, FlagEffect.outcome]

/-- The flags after the effects of a row of R29, where `q` says what the changed ones became. -/
def FlagEffects.outcome (e : FlagEffects) (p q : Status) : Status where
  n := e.n.outcome p.n q.n
  v := e.v.outcome p.v q.v
  b := e.b.outcome p.b q.b
  d := e.d.outcome p.d q.d
  i := e.i.outcome p.i q.i
  z := e.z.outcome p.z q.z
  c := e.c.outcome p.c q.c

theorem FlagEffects.allow_iff (e : FlagEffects) (p q : Status) :
    e.Allow p q ↔ q = e.outcome p q := by
  simp only [FlagEffects.Allow, FlagEffect.allows_iff, Status.ext_iff, FlagEffects.outcome]

/-- The registers after an instruction as R10 and R29 have it, where `new` says what the written
ones became. -/
def Registers.outcome (i : Instr) (old new : Registers) : Registers where
  a := bif (registersWritten i).a then new.a else old.a
  x := bif (registersWritten i).x then new.x else old.x
  y := bif (registersWritten i).y then new.y else old.y
  sp := bif (registersWritten i).s then new.sp else old.sp
  w := bif (registersWritten i).w then new.w else old.w
  ireg := bif (registersWritten i).i then new.ireg else old.ireg
  p := (flagEffects i).outcome old.p new.p

/-- Nothing but what the tables of R10 and R29 give to `i` became of the registers. -/
def Registers.ChangedBy (i : Instr) (old new : Registers) : Prop := new = old.outcome i new

/-- Once the registers after are known, the tables are evaluated at them. -/
theorem Registers.ChangedBy.of_eq {i : Instr} {old new known : Registers} (h : new = known)
    (hknown : known = old.outcome i known) : Registers.ChangedBy i old new := by
  subst h
  exact hknown

theorem Registers.ChangedBy.flags {i : Instr} {old new : Registers}
    (h : Registers.ChangedBy i old new) : (flagEffects i).Allow old.p new.p :=
  ((flagEffects i).allow_iff _ _).mpr (congrArg Registers.p h)

/-- A register that is kept where it is not written. -/
theorem eq_of_not_written {α : Type} {written : Bool} {new old : α}
    (h : new = bif written then new else old) (hw : written = false) : new = old := by
  rw [h, hw, cond_false]

/-- The instructions that read an operand: what they do with the byte is what counts. -/
theorem State.withOperand_changedBy {i : Instr} (s : State) (o : Operand)
    {f : State → Byte → State}
    (hf : ∀ u m, Registers.ChangedBy i u.registers (f u m).registers) :
    Registers.ChangedBy i s.registers (s.withOperand o f).registers := by
  rw [State.withOperand_registers]
  simpa using hf (s.operand o).2 (s.operand o).1

/-! ### The instructions -/

/-- Every instruction completes and writes what the tables give to it: the equation of its shared
operation gives the registers after, and the row of the tables is evaluated at them.  The last group
are bare register updates after accesses that change only the record of the bus. -/
theorem exec_changedBy (i : Instr) (s : State) :
    ∃ t, exec i s = .next t ∧ Registers.ChangedBy i s.registers t.registers := by
  cases i with
  | ldaInd | ldaZp | ldaImm | ldaAbs | ldaIndX | ldaZpX | ldaAbsY | ldaAbsX
  | andInd | andZp | andImm | andAbs | andIndX | andZpX | andAbsY | andAbsX
  | oraInd | oraZp | oraImm | oraAbs | oraIndX | oraZpX | oraAbsY | oraAbsX
  | eorInd | eorZp | eorImm | eorAbs | eorIndX | eorZpX | eorAbsY | eorAbsX =>
    exact ⟨_, rfl, s.withOperand_changedBy _ fun u _ => .of_eq (u.loadA_registers _) rfl⟩
  | ldxImm | ldxZp | ldxAbs | ldxZpY | ldxAbsY =>
    exact ⟨_, rfl, s.withOperand_changedBy _ fun u _ => .of_eq (u.loadX_registers _) rfl⟩
  | ldyImm | ldyZp | ldyAbs | ldyZpX | ldyAbsX =>
    exact ⟨_, rfl, s.withOperand_changedBy _ fun u _ => .of_eq (u.loadY_registers _) rfl⟩
  | bitZp | bitAbs
  | cmpInd | cmpZp | cmpImm | cmpAbs | cmpIndX | cmpZpX | cmpAbsY | cmpAbsX
  | cpxImm | cpxZp | cpxAbs | cpyImm | cpyZp | cpyAbs =>
    exact ⟨_, rfl, s.withOperand_changedBy _ fun u _ => .of_eq (u.setP_registers _) rfl⟩
  | adcInd | adcZp | adcImm | adcAbs | adcIndX | adcZpX | adcAbsY | adcAbsX
  | addZp | addZpX | addImm =>
    exact ⟨_, rfl, s.withOperand_changedBy _ fun u m =>
      have ⟨_, h⟩ := u.addTo_registers m _
      .of_eq h rfl⟩
  | sbcInd | sbcZp | sbcImm | sbcAbs | sbcIndX | sbcZpX | sbcAbsY | sbcAbsX =>
    exact ⟨_, rfl, s.withOperand_changedBy _ fun u m =>
      have ⟨_, h⟩ := u.subtractFrom_registers m _
      .of_eq h rfl⟩
  | staInd | staZp | staAbs | staIndX | staZpX | staAbsY | staAbsX
  | stxZp | stxAbs | stxZpY | styZp | styAbs | styZpX =>
    exact ⟨_, rfl, .of_eq (s.storeTo_registers _ _) rfl⟩
  | exc => exact ⟨_, rfl, .of_eq (s.exchange_registers _) rfl⟩
  | incZp | incAbs | incZpX | incAbsX | decZp | decAbs | decZpX | decAbsX
  | aslZp | aslAbs | aslZpX | aslAbsX | rolZp | rolAbs | rolZpX | rolAbsX
  | rorZp | rorAbs | rorZpX | rorAbsX => exact ⟨_, rfl, .of_eq (s.modify_registers _ _) rfl⟩
  | lsrZp | lsrAbs | lsrZpX | lsrAbsX => exact ⟨_, rfl, .of_eq (s.modify_lsr_registers _) rfl⟩
  | lsrA => exact ⟨_, rfl, .of_eq s.modifyA_lsr_registers rfl⟩
  | aslA | rolA | rorA | asrA | negA => exact ⟨_, rfl, .of_eq (s.modifyA_registers _) rfl⟩
  | labA => exact ⟨_, rfl, .of_eq ((s.touch (s.pc + 1)).modifyA_registers _) rfl⟩
  | txa | tya | twa => exact ⟨_, rfl, .of_eq (s.implied.loadA_registers _) rfl⟩
  | tax | tsx | inx | dex => exact ⟨_, rfl, .of_eq (s.implied.loadX_registers _) rfl⟩
  | tay | iny | dey => exact ⟨_, rfl, .of_eq (s.implied.loadY_registers _) rfl⟩
  | mpy => exact ⟨_, rfl, .of_eq s.multiply_registers rfl⟩
  | mpa => exact ⟨_, rfl, .of_eq s.multiplyAccumulate_registers rfl⟩
  | rnd => exact ⟨_, rfl, .of_eq s.round_registers rfl⟩
  | rmb0 | rmb1 | rmb2 | rmb3 | rmb4 | rmb5 | rmb6 | rmb7
  | smb0 | smb1 | smb2 | smb3 | smb4 | smb5 | smb6 | smb7 =>
    exact ⟨_, rfl, .of_eq (s.changeBit_registers _ _) rfl⟩
  | rba | sba => exact ⟨_, rfl, .of_eq (s.maskBits_registers _ _) rfl⟩
  | bbr0 | bbr1 | bbr2 | bbr3 | bbr4 | bbr5 | bbr6 | bbr7
  | bbs0 | bbs1 | bbs2 | bbs3 | bbs4 | bbs5 | bbs6 | bbs7 =>
    exact ⟨_, rfl, .of_eq (s.testBit_registers _ _ _) rfl⟩
  | bar | bas => exact ⟨_, rfl, .of_eq (s.maskBranch_registers _ _ _) rfl⟩
  | bcc | bcs | beq | bmi | bne | bpl | bvc | bvs | bra =>
    exact ⟨_, rfl, .of_eq (s.branch_registers _ _) rfl⟩
  | jmpInd => exact ⟨_, rfl, .of_eq (s.jumpThrough_registers _) rfl⟩
  | jmpIndX => exact ⟨_, rfl, .of_eq (s.jumpIndexed_registers _) rfl⟩
  | jsr => exact ⟨_, rfl, .of_eq (s.push16_registers _) rfl⟩
  | jsb0 | jsb1 | jsb2 | jsb3 | jsb4 | jsb5 | jsb6 | jsb7 =>
    exact ⟨_, rfl, .of_eq (s.jumpVector_registers _) rfl⟩
  | rts => exact ⟨_, rfl, .of_eq s.returnFromSubroutine_registers rfl⟩
  | rti =>
    exact ⟨_, rfl,
      .of_eq (State.touchTimes 2 s (s.pc + 1)).returnFromException_registers rfl⟩
  | brk => exact ⟨_, rfl, .of_eq s.softwareBreak_registers rfl⟩
  | pha | php | phx | phy => exact ⟨_, rfl, .of_eq (s.implied.push_registers _) rfl⟩
  | phw | phi => exact ⟨_, rfl, .of_eq (s.implied.push16_registers _) rfl⟩
  | psh => exact ⟨_, rfl, .of_eq (s.implied.push_push_push_registers _ _ _) rfl⟩
  | pla => exact ⟨_, rfl, .of_eq s.pullA_registers rfl⟩
  | plp => exact ⟨_, rfl, .of_eq s.pullP_registers rfl⟩
  | plx => exact ⟨_, rfl, .of_eq s.pullX_registers rfl⟩
  | ply => exact ⟨_, rfl, .of_eq s.pullY_registers rfl⟩
  | plw => exact ⟨_, rfl, .of_eq s.pullW_registers rfl⟩
  | pli => exact ⟨_, rfl, .of_eq s.pullI_registers rfl⟩
  | pul => exact ⟨_, rfl, .of_eq s.pullYXA_registers rfl⟩
  | pia =>
    obtain ⟨_, h⟩ := s.pullIA_registers
    exact ⟨_, rfl, .of_eq h rfl⟩
  | nxt => exact ⟨_, rfl, .of_eq s.nextInstruction_registers rfl⟩
  | lii => exact ⟨_, rfl, .of_eq s.loadIIndirect_registers rfl⟩
  | jpi => exact ⟨_, rfl, .of_eq (s.jumpSavingI_registers _) rfl⟩
  | sti | txs | taw | clw | jmpAbs | lai | lan | ini | tip
  | clc | cld | cli | clv | sec | sed | sei | nop => exact ⟨_, rfl, rfl⟩

theorem changedBy_of_exec {i : Instr} {s t : State} (h : exec i s = .next t) :
    Registers.ChangedBy i s.registers t.registers := by
  obtain ⟨u, hu, hchanged⟩ := exec_changedBy i s
  obtain rfl : u = t := by simpa [hu] using h
  exact hchanged

/-- No instruction changes the parameters, raises a request or takes one. -/
theorem exec_keeps_requests {i : Instr} {s t : State} (h : exec i s = .next t) :
    t.params = s.params ∧ t.irqs = s.irqs ∧ t.nmiPending = s.nmiPending ∧
      t.resetPending = s.resetPending := by
  obtain ⟨b, u, hu, hs⟩ : ∃ b u, exec i s = .next u ∧ u.standing = { s.standing with b := b } := by
    by_cases hi : i = .brk
    · subst hi
      exact ⟨_, exec_brk_standing s⟩
    · exact ⟨s.p.b, exec_standing i s hi⟩
  obtain rfl : u = t := by simpa [hu] using h
  exact ⟨congrArg Standing.params hs, congrArg Standing.irqs hs, congrArg Standing.nmiPending hs,
    congrArg Standing.resetPending hs⟩

/-- Settles O56: the P of the registers as tabled. -/
theorem flagsAsTabled : Obligations.FlagsAsTabled := fun _ _ _ h =>
  (changedBy_of_exec h).flags

/-- Settles O57: the other registers as tabled, and the standing part of the state. -/
theorem registersAsTabled : Obligations.RegistersAsTabled := by
  intro i s t h
  have hchanged := changedBy_of_exec h
  exact ⟨eq_of_not_written (congrArg Registers.a hchanged),
    eq_of_not_written (congrArg Registers.x hchanged),
    eq_of_not_written (congrArg Registers.y hchanged),
    eq_of_not_written (congrArg Registers.sp hchanged),
    eq_of_not_written (congrArg Registers.w hchanged),
    eq_of_not_written (congrArg Registers.ireg hchanged),
    exec_keeps_requests h⟩

end Sys2Proof.Machine
end

section
/-! One access in each kind of region, what an instruction and a step make of memory as the writes
that they make on the bus, and O12, O13, O14. -/

namespace Sys2Proof.Machine

/-! ### A list of writes -/

/-- The state after these writes, made in this order. -/
def State.writes (s : State) : List (Word × Byte) → State
  | [] => s
  | w :: ws => State.writes (s.write w.1 w.2) ws

/-- The memory after writes depends on memory and on the parameters alone. -/
theorem State.writes_mem_congr {s u : State} (hmem : u.mem = s.mem) (hparams : u.params = s.params)
    (ws : List (Word × Byte)) : (u.writes ws).mem = (s.writes ws).mem := by
  induction ws generalizing s u with
  | nil => exact hmem
  | cons w ws ih =>
    refine ih ?_ hparams
    simp [State.write, State.kindAt, hmem, hparams]

/-- Writes keep the canonical form of memory. -/
theorem State.wf_writes {s : State} (ws : List (Word × Byte)) (h : Memory.wf s.mem = true) :
    Memory.wf (s.writes ws).mem = true := by
  induction ws generalizing s with
  | nil => exact h
  | cons w ws ih => exact ih (s.wf_write w.1 w.2 h)

/-- What is not read/write memory keeps its byte (R42). -/
theorem State.byteAt_writes_of_not_ram {s : State} (ws : List (Word × Byte)) {a : Word}
    (h : s.kindAt a ≠ .ram) : (s.writes ws).byteAt a = s.byteAt a := by
  induction ws generalizing s with
  | nil => rfl
  | cons w ws ih =>
    have hhead : ¬(s.kindAt w.1 = .ram ∧ a = w.1) := by
      rintro ⟨hram, rfl⟩
      exact h hram
    rw [State.writes, ih (by rwa [State.kindAt_write]), State.byteAt_write, if_neg hhead]

/-- An address that is not written keeps its byte. -/
theorem State.byteAt_writes_of_not_mem {s : State} {ws : List (Word × Byte)} {a : Word}
    (h : ∀ w ∈ ws, a ≠ w.1) : (s.writes ws).byteAt a = s.byteAt a := by
  induction ws generalizing s with
  | nil => rfl
  | cons w ws ih =>
    obtain ⟨hhead, htail⟩ := List.forall_mem_cons.mp h
    rw [State.writes, ih htail, State.byteAt_write, if_neg fun hw => hhead hw.2]

/-- Writes at different addresses: memory takes exactly their bytes (R42). -/
theorem State.storesBytes_writes {s : State} {ws : List (Word × Byte)}
    (h : (ws.map Prod.fst).Nodup) : StoresBytes s (s.writes ws) ws := by
  refine ⟨?_, fun a ha => State.byteAt_writes_of_not_mem ha⟩
  induction ws generalizing s with
  | nil => simp
  | cons w ws ih =>
    obtain ⟨hhead, htail⟩ := List.nodup_cons.mp h
    have hother : ∀ x ∈ ws, w.1 ≠ x.1 := fun x hx heq =>
      hhead (heq ▸ List.mem_map_of_mem hx)
    refine List.forall_mem_cons.mpr ⟨?_, fun x hx => ?_⟩
    · rw [State.writes, State.byteAt_writes_of_not_mem hother, State.byteAt_write]
      simp
    · rw [State.writes, ih htail x hx, State.kindAt_write, State.byteAt_write,
        if_neg (c := _ ∧ _) fun hw => hother x hx hw.2.symm]

/-! ### One access -/

/-- Where there is memory a read changes nothing but the count of cycles (R335). -/
theorem State.touch_stored {s : State} {a : Word} (h : s.Stored a) : s.touch a = s.tick 1 := by
  rcases h with h | h <;> simp [State.touch, State.tick, busAfterRead, h]

/-- Where there is memory no device sees a write (R42). -/
theorem State.write_stored_io {s : State} {a : Word} (v : Byte) (h : s.Stored a) :
    (s.write a v).bus.io = s.bus.io := by
  rcases h with h | h <;> simp [State.write, busAfterWrite, h]

/-- Settles O12: the write as a list of one, and then the kinds of region one by one. -/
theorem accessInEachKindOfRegion : Obligations.AccessInEachKindOfRegion := by
  intro s a v
  refine ⟨State.storesBytes_writes (ws := [(a, v)]) (List.nodup_singleton a), rfl, rfl,
    fun hstored => ?_, fun hio => ?_, fun hnothing => ?_⟩
  · rw [State.touch_stored hstored]
    exact ⟨State.peek_stored hstored, rfl, rfl, State.write_stored_io v hstored⟩
  · simp [State.peek, State.touch, State.write, busAfterRead, busAfterWrite, hio]
  · simp [State.peek, State.touch, State.write, busAfterRead, busAfterWrite, hnothing]

/-! ### The shared operations that write no memory -/

@[simp] theorem State.read_mem (s : State) (a : Word) : (s.read a).2.mem = s.mem := rfl

@[simp] theorem State.loadA_mem (s : State) (v : Byte) : (s.loadA v).mem = s.mem := rfl

@[simp] theorem State.loadX_mem (s : State) (v : Byte) : (s.loadX v).mem = s.mem := rfl

@[simp] theorem State.loadY_mem (s : State) (v : Byte) : (s.loadY v).mem = s.mem := rfl

theorem State.withOperand_mem (s : State) (o : Operand) {f : State → Byte → State}
    (hf : ∀ u m, (f u m).mem = u.mem) : (s.withOperand o f).mem = s.mem := by
  simp [State.withOperand, hf]

theorem State.addTo_mem (s : State) (m : Byte) (cin : Bool) : (s.addTo m cin).mem = s.mem := by
  unfold State.addTo
  split <;> simp

theorem State.subtractFrom_mem (s : State) (m : Byte) (cin : Bool) :
    (s.subtractFrom m cin).mem = s.mem := by
  unfold State.subtractFrom
  split <;> simp

@[simp] theorem State.modifyA_mem (s : State) (f : Byte → Status → Byte × Status) :
    (s.modifyA f).mem = s.mem := rfl

@[simp] theorem State.impliedMultiply_mem (s : State) : s.impliedMultiply.mem = s.mem := by
  simp [State.impliedMultiply]

@[simp] theorem State.multiply_mem (s : State) : s.multiply.mem = s.mem := by
  simp [State.multiply]

@[simp] theorem State.multiplyAccumulate_mem (s : State) :
    s.multiplyAccumulate.mem = s.mem := by
  simp [State.multiplyAccumulate]

@[simp] theorem State.roundY_mem (s : State) (w : Word) : (s.roundY w).mem = s.mem := by
  unfold State.roundY
  split <;> simp

@[simp] theorem State.round_mem (s : State) : s.round.mem = s.mem := by
  simp [State.round]

@[simp] theorem State.testBit_mem (s : State) (n : Byte) (cond : Byte → Bool) (r : Byte) :
    (s.testBit n cond r).mem = s.mem := by
  simp [State.testBit]

@[simp] theorem State.maskBranch_mem (s : State) (nn : Word) (cond : Byte → Bool) (r : Byte) :
    (s.maskBranch nn cond r).mem = s.mem := by
  simp [State.maskBranch]

@[simp] theorem State.jumpThrough_mem (s : State) (ptr : Word) :
    (s.jumpThrough ptr).mem = s.mem := by
  simp [State.jumpThrough]

@[simp] theorem State.jumpIndexed_mem (s : State) (nn : Word) :
    (s.jumpIndexed nn).mem = s.mem := by
  simp [State.jumpIndexed]

@[simp] theorem State.jumpSavingI_mem (s : State) (ia : Word) :
    (s.jumpSavingI ia).mem = s.mem := by
  simp [State.jumpSavingI]

@[simp] theorem State.returnFromSubroutine_mem (s : State) :
    s.returnFromSubroutine.mem = s.mem := by
  simp [State.returnFromSubroutine]

@[simp] theorem State.impliedPull_mem (s : State) : s.impliedPull.mem = s.mem := rfl

@[simp] theorem State.pullA_mem (s : State) : s.pullA.mem = s.mem := by
  simp [State.pullA]

@[simp] theorem State.pullX_mem (s : State) : s.pullX.mem = s.mem := by
  simp [State.pullX]

@[simp] theorem State.pullY_mem (s : State) : s.pullY.mem = s.mem := by
  simp [State.pullY]

@[simp] theorem State.pullP_mem (s : State) : s.pullP.mem = s.mem := by
  simp [State.pullP]

@[simp] theorem State.pullW_mem (s : State) : s.pullW.mem = s.mem := by
  simp [State.pullW]

@[simp] theorem State.pullI_mem (s : State) : s.pullI.mem = s.mem := by
  simp [State.pullI]

@[simp] theorem State.pullYXA_mem (s : State) : s.pullYXA.mem = s.mem := by
  simp [State.pullYXA]

@[simp] theorem State.pullIA_mem (s : State) : s.pullIA.mem = s.mem := by
  unfold State.pullIA
  dsimp only
  split <;> simp

@[simp] theorem State.readThroughI_mem (s : State) : s.readThroughI.2.mem = s.mem := rfl

@[simp] theorem State.nextInstruction_mem (s : State) : s.nextInstruction.mem = s.mem := by
  simp [State.nextInstruction]

@[simp] theorem State.loadIIndirect_mem (s : State) : s.loadIIndirect.mem = s.mem := by
  simp [State.loadIIndirect]

/-! ### The shared operations that write -/

theorem Byte.sub_one_sub_one (b : Byte) : b - 1 - 1 = b - 2 := by
  rw [BitVec.sub_sub]
  rfl

/-- A store is one write. -/
theorem State.storeTo_writes (s : State) (m : Mode) (v : Byte) :
    (s.storeTo m v).mem = (s.writes [((s.resolve .write m).1, v)]).mem :=
  s.storeTo_mem m v

/-- A read/modify/write makes one write (R50). -/
theorem State.modify_writes (s : State) (m : Mode) (f : Byte → Status → Byte × Status) :
    (s.modify m f).mem =
      (s.writes [((s.resolve .write m).1,
        (f ((s.resolve .write m).2.peek (s.resolve .write m).1) s.p).1)]).mem :=
  s.modify_mem m f

/-- RMB and SMB make one write (R210, R211). -/
theorem State.changeBit_writes (s : State) (n : Byte) (f : Byte → Byte) :
    (s.changeBit n f).mem = (s.writes [(zext n, f (s.peek (zext n)))]).mem := rfl

/-- RBA and SBA make one write (R212, R213), of what is read after the draw of A. -/
theorem State.maskBits_writes (s : State) (nn : Word) (f : Byte → Byte) :
    (s.maskBits nn f).mem = (s.writes [(nn, f (s.draw.2.peek nn))]).mem := rfl

/-- PSH pushes A, X and Y, in this order (R258). -/
theorem State.implied_pushes_writes (s : State) :
    (((s.implied.push s.a).push s.x).push s.y).mem =
      (s.writes [(stackAddr s.sp, s.a), (stackAddr (s.sp - 1), s.x),
        (stackAddr (s.sp - 2), s.y)]).mem := by
  rw [← Byte.sub_one_sub_one]
  rfl

/-- Taking an exception pushes three bytes (R307). -/
theorem State.takeException_writes (s : State) (ret vector : Word) (setB : Bool) :
    (s.takeException ret vector setB).mem =
      (s.writes (exceptionFrame s.sp ret (pByte s.params.pBit5 s.p))).mem := by
  rw [s.takeException_mem, exceptionFrame, ← Byte.sub_one_sub_one]
  rfl

/-- BRK is an exception after one ignored read (R237, R301). -/
theorem State.softwareBreak_writes (s : State) :
    s.softwareBreak.mem =
      (s.writes (exceptionFrame s.sp (s.pc + s.params.brkReturnOffset)
        (pByte s.params.pBit5 s.p))).mem := by
  rw [State.softwareBreak, State.takeException_writes]
  exact State.writes_mem_congr (s.touch_mem _) (s.touch_params _) _

/-- The hardware sequence pushes what taking an exception pushes (R305).  Before it, a step clears
the request, which is no part of memory. -/
theorem State.interruptSequence_writes {s u : State} (hmem : u.mem = s.mem)
    (hparams : u.params = s.params) (vector : Word) :
    (u.interruptSequence vector).mem =
      (s.writes (exceptionFrame u.sp u.pc (pByte u.params.pBit5 u.p))).mem := by
  rw [State.interruptSequence, State.takeException_writes]
  simp only [State.touchTimes_sp, State.touchTimes_params, State.touchTimes_p]
  exact State.writes_mem_congr (by simp [hmem]) (by simp [hparams]) _

/-! ### The instructions -/

/-- From `s` to `t` memory takes writes at these addresses, in this order, and nothing else. -/
def WritesAt (s t : State) (as : List Word) : Prop :=
  ∃ ws : List (Word × Byte), ws.map Prod.fst = as ∧ t.mem = (s.writes ws).mem

theorem WritesAt.none {s t : State} (h : t.mem = s.mem) : WritesAt s t [] := ⟨[], rfl, h⟩

theorem WritesAt.one {s t : State} {a : Word} (v : Byte) (h : t.mem = (s.writes [(a, v)]).mem) :
    WritesAt s t [a] := ⟨[(a, v)], rfl, h⟩

theorem WritesAt.two {s t : State} {a b : Word} (v w : Byte)
    (h : t.mem = (s.writes [(a, v), (b, w)]).mem) : WritesAt s t [a, b] :=
  ⟨[(a, v), (b, w)], rfl, h⟩

/-- PHA, PHP, PHX and PHY (R251 to R254). -/
theorem State.implied_push_writesAt (s : State) (v : Byte) :
    WritesAt s (s.implied.push v) [stackAddr s.sp] := .one v rfl

/-- PHW and PHI (R255, R256). -/
theorem State.implied_push16_writesAt (s : State) (v : Word) :
    WritesAt s (s.implied.push16 v) [stackAddr s.sp, stackAddr (s.sp - 1)] :=
  .two (hiByte v) (loByte v) rfl

/-- JSR (R233). -/
theorem State.push16_setPc_writesAt (s : State) (v target : Word) :
    WritesAt s ((s.push16 v).setPc target) [stackAddr s.sp, stackAddr (s.sp - 1)] :=
  .two (hiByte v) (loByte v) rfl

/-- JSB (R234). -/
theorem State.jumpVector_writesAt (s : State) (n : Fin 8) :
    WritesAt s (s.jumpVector n) [stackAddr s.sp, stackAddr (s.sp - 1)] :=
  .two (hiByte (s.pc + 1)) (loByte (s.pc + 1)) rfl

/-- Every instruction completes, and memory takes writes at the addresses of the table and no
others: the memory after each shared operation is known as the memory after a list of writes. -/
theorem exec_writesAt (i : Instr) (s : State) :
    ∃ t, exec i s = .next t ∧ WritesAt s t (storesTo s i) := by
  cases i with
  | ldaInd | ldaZp | ldaImm | ldaAbs | ldaIndX | ldaZpX | ldaAbsY | ldaAbsX
  | ldxImm | ldxZp | ldxAbs | ldxZpY | ldxAbsY | ldyImm | ldyZp | ldyAbs | ldyZpX | ldyAbsX
  | andInd | andZp | andImm | andAbs | andIndX | andZpX | andAbsY | andAbsX
  | oraInd | oraZp | oraImm | oraAbs | oraIndX | oraZpX | oraAbsY | oraAbsX
  | eorInd | eorZp | eorImm | eorAbs | eorIndX | eorZpX | eorAbsY | eorAbsX
  | bitZp | bitAbs
  | cmpInd | cmpZp | cmpImm | cmpAbs | cmpIndX | cmpZpX | cmpAbsY | cmpAbsX
  | cpxImm | cpxZp | cpxAbs | cpyImm | cpyZp | cpyAbs =>
    exact ⟨_, rfl, .none (s.withOperand_mem _ fun _ _ => rfl)⟩
  | adcInd | adcZp | adcImm | adcAbs | adcIndX | adcZpX | adcAbsY | adcAbsX
  | addZp | addZpX | addImm =>
    exact ⟨_, rfl, .none (s.withOperand_mem _ fun u m => u.addTo_mem m _)⟩
  | sbcInd | sbcZp | sbcImm | sbcAbs | sbcIndX | sbcZpX | sbcAbsY | sbcAbsX =>
    exact ⟨_, rfl, .none (s.withOperand_mem _ fun u m => u.subtractFrom_mem m _)⟩
  | staInd | staZp | staAbs | staIndX | staZpX | staAbsY | staAbsX
  | stxZp | stxAbs | stxZpY | styZp | styAbs | styZpX =>
    exact ⟨_, rfl, .one _ (s.storeTo_writes _ _)⟩
  | incZp | incAbs | incZpX | incAbsX | decZp | decAbs | decZpX | decAbsX
  | aslZp | aslAbs | aslZpX | aslAbsX | lsrZp | lsrAbs | lsrZpX | lsrAbsX
  | rolZp | rolAbs | rolZpX | rolAbsX | rorZp | rorAbs | rorZpX | rorAbsX =>
    exact ⟨_, rfl, .one _ (s.modify_writes _ _)⟩
  | exc => exact ⟨_, rfl, .one s.a rfl⟩
  | sti n1 => exact ⟨_, rfl, .one n1 rfl⟩
  | rmb0 | rmb1 | rmb2 | rmb3 | rmb4 | rmb5 | rmb6 | rmb7
  | smb0 | smb1 | smb2 | smb3 | smb4 | smb5 | smb6 | smb7 =>
    exact ⟨_, rfl, .one _ (s.changeBit_writes _ _)⟩
  | rba | sba => exact ⟨_, rfl, .one _ (s.maskBits_writes _ _)⟩
  | pha | php | phx | phy => exact ⟨_, rfl, s.implied_push_writesAt _⟩
  | phw | phi => exact ⟨_, rfl, s.implied_push16_writesAt _⟩
  | jsr => exact ⟨_, rfl, s.push16_setPc_writesAt _ _⟩
  | jsb0 | jsb1 | jsb2 | jsb3 | jsb4 | jsb5 | jsb6 | jsb7 =>
    exact ⟨_, rfl, s.jumpVector_writesAt _⟩
  | psh => exact ⟨_, rfl, _, rfl, s.implied_pushes_writes⟩
  | brk => exact ⟨_, rfl, _, rfl, s.softwareBreak_writes⟩
  | _ => exact ⟨_, rfl, .none (by simp)⟩

/-! ### The step -/

/-- A step of any kind makes of memory what some writes on the bus make of it. -/
theorem step_writes {s t : State} (h : step s = .next t) :
    ∃ ws : List (Word × Byte), t.mem = (s.writes ws).mem := by
  obtain ⟨-, rfl⟩ | ⟨-, -, rfl⟩ | ⟨vector, irqs, -, -, -, rfl⟩ | ⟨i, -, -, -, -, he⟩ :=
    step_cases h
  case inl => exact ⟨[], s.startSequence_frame.1⟩
  case inr.inl => exact ⟨_, State.interruptSequence_writes (s := s) rfl rfl nmiVector⟩
  case inr.inr.inl => exact ⟨_, State.interruptSequence_writes (s := s) rfl rfl vector⟩
  case inr.inr.inr =>
    obtain ⟨u, hu, ws, -, hws⟩ := exec_writesAt i s.fetch.2
    obtain rfl : u = t := by simpa [hu] using he
    obtain ⟨b, hf⟩ := s.fetch_only_bus
    exact ⟨ws, hws.trans (State.writes_mem_congr (by rw [hf]) (by rw [hf]) ws)⟩

/-- Settles O13: a step makes writes, and every write keeps the form. -/
theorem memoryFormKeptByStep : Obligations.MemoryFormKeptByStep := by
  intro s t hwf h
  obtain ⟨ws, hmem⟩ := step_writes h
  rw [hmem]
  exact State.wf_writes ws hwf

/-- Settles O14: a step makes writes, and only read/write memory takes one. -/
theorem onlyReadWriteMemoryChanges : Obligations.OnlyReadWriteMemoryChanges := by
  intro s t h a hkind
  obtain ⟨ws, hmem⟩ := step_writes h
  rw [State.byteAt_congr hmem, State.byteAt_writes_of_not_ram ws hkind]

end Sys2Proof.Machine
end

section
/-! Fetching stored code: the decoder read through the bus, and O7. -/

namespace Sys2Proof.Machine

/-! ### Reads of memory cost a cycle and nothing else -/

theorem State.tick_tick (s : State) (m n : Nat) : (s.tick m).tick n = s.tick (m + n) := by
  simp [State.tick, Nat.add_assoc]

theorem State.peek_stored_of_tick {s : State} {a : Word} {n : Nat} (h : s.Stored a) :
    (s.tick n).peek a = s.byteAt a := State.peek_stored (s := s.tick n) h

theorem State.touch_stored_of_tick {s : State} {a : Word} {n : Nat} (h : s.Stored a) :
    (s.tick n).touch a = s.tick (n + 1) := by
  rw [State.touch_stored (s := s.tick n) h, State.tick_tick]

theorem State.read16_stored {s : State} {a : Word} (h : s.Stored a) (h' : s.Stored (a + 1)) :
    s.read16 a = (wordOf (s.byteAt (a + 1)) (s.byteAt a), s.tick 2) := by
  have hstate : (s.read16 a).2 = s.tick 2 := by
    rw [State.read16_snd, State.touch_stored h, State.touch_stored_of_tick h']
  exact Prod.ext (State.read16_value h h') hstate

/-- Where code stands depends on the parameters alone, not on the count of cycles. -/
theorem State.codeStored_tick {s : State} (k : Nat) {a : Word} {n : Nat} (h : s.CodeStored a n) :
    (s.tick k).CodeStored a n := by
  induction n generalizing a with
  | zero => trivial
  | succ n ih =>
    obtain ⟨hhead, htail⟩ := h
    exact ⟨hhead, ih htail⟩

theorem State.codeBytes_tick (s : State) (k : Nat) (a : Word) (n : Nat) :
    (s.tick k).codeBytes a n = s.codeBytes a n := by
  induction n generalizing a with
  | zero => rfl
  | succ n ih => exact congrArg (s.byteAt a :: ·) (ih (a + 1))

/-! ### The operands -/

/-- How many operand bytes are fetched before the execution (R47, R49). -/
def earlyOperands : Shape → Nat
  | .unused | .none _ => 0
  | .byte _ | .lateByte _ => 1
  | .word _ | .bytes _ | .wordBytes _ => 2
  | .byteWord _ => 3

theorem Word.add_one_add_one (a : Word) : a + 1 + 1 = a + 2 := by
  rw [BitVec.add_assoc]
  rfl

theorem Word.add_two_add_one (a : Word) : a + 2 + 1 = a + 3 := by
  rw [BitVec.add_assoc]
  rfl

/-- Fetching operands from memory is decoding the bytes that stand there.  The data read that comes
before a late byte may be of a device, and leaves that byte what memory holds (R49). -/
theorem State.fetchOperands_stored {s : State} {a : Word} {n : Nat} {op : Byte} {sh : Shape}
    {i : Instr} {rest : List Byte} (hcode : s.CodeStored a n)
    (hdecode : decodeOperands op sh (s.codeBytes a n) = .instr i rest) :
    s.fetchOperands a sh = (some i, s.tick (earlyOperands sh)) := by
  cases sh with
  | unused => cases hdecode
  | none j =>
    cases hdecode
    rfl
  | byte f =>
    match n, hcode, hdecode with
    | n + 1, ⟨h0, _⟩, hdecode =>
      cases hdecode
      simp only [State.fetchOperands, State.peek_stored h0, State.touch_stored h0, earlyOperands]
  | word f =>
    match n, hcode, hdecode with
    | n + 2, ⟨h0, h1, _⟩, hdecode =>
      cases hdecode
      simp only [State.fetchOperands, State.read16_stored h0 h1, earlyOperands]
  | bytes f =>
    match n, hcode, hdecode with
    | n + 2, ⟨h0, h1, _⟩, hdecode =>
      cases hdecode
      simp only [State.fetchOperands, State.read, State.peek_stored h0, State.touch_stored h0,
        State.peek_stored_of_tick h1, State.touch_stored_of_tick h1, earlyOperands]
  | lateByte f =>
    match n, hcode, hdecode with
    | n + 2, ⟨h0, h1, _⟩, hdecode =>
      cases hdecode
      have hlate : ∀ u : Word, (((s.tick 1).touch u).touch u).peek (a + 1) = s.byteAt (a + 1) :=
        fun u => State.peek_stored (s := ((s.tick 1).touch u).touch u) h1
      simp only [State.fetchOperands, State.read, State.peek_stored h0, State.touch_stored h0,
        hlate, earlyOperands]
  | byteWord f =>
    match n, hcode, hdecode with
    | n + 3, ⟨h0, h1, h2, _⟩, hdecode =>
      cases hdecode
      have hword : (s.tick 1).read16 (a + 1) =
          (wordOf (s.byteAt (a + 1 + 1)) (s.byteAt (a + 1)), (s.tick 1).tick 2) :=
        State.read16_stored (s := s.tick 1) h1 h2
      simp only [State.fetchOperands, State.read, State.peek_stored h0, State.touch_stored h0,
        hword, State.tick_tick, earlyOperands]
  | wordBytes f =>
    match n, hcode, hdecode with
    | n + 4, ⟨h0, h1, h2, h3, _⟩, hdecode =>
      cases hdecode
      have hmask : ∀ u : Word, ((s.tick 2).touch u).peek (a + 2) = s.byteAt (a + 2) := by
        rw [← Word.add_one_add_one]
        exact fun u => State.peek_stored (s := (s.tick 2).touch u) h2
      have hoffset : ∀ u v : Word,
          ((((s.tick 2).touch u).touch v).touch v).peek (a + 3) = s.byteAt (a + 3) := by
        rw [← Word.add_two_add_one, ← Word.add_one_add_one]
        exact fun u v => State.peek_stored (s := (((s.tick 2).touch u).touch v).touch v) h3
      simp only [State.fetchOperands, State.read16_stored h0 h1, hmask, hoffset, earlyOperands,
        Word.add_one_add_one, Word.add_two_add_one]

/-! ### The op code -/

/-- The instructions of a cell of the matrix have as many bytes fetched early as its operands ask
for, the op code besides. -/
def EarlyAsTabled : Shape → Prop
  | .unused => True
  | .none i => earlyBytes i = 1
  | .byte f => ∀ b, earlyBytes (f b) = 2
  | .word f => ∀ nn, earlyBytes (f nn) = 3
  | .bytes f => ∀ b c, earlyBytes (f b c) = 3
  | .lateByte f => ∀ b c, earlyBytes (f b c) = 2
  | .byteWord f => ∀ b nn, earlyBytes (f b nn) = 4
  | .wordBytes f => ∀ nn b c, earlyBytes (f nn b c) = 3

/-- Cell by cell of the matrix of R74. -/
theorem earlyAsTabled_of_mem_opcodeRow (row : Nat) : ∀ sh ∈ opcodeRow row, EarlyAsTabled sh := by
  unfold opcodeRow
  split
  all_goals simp only [List.forall_mem_cons, EarlyAsTabled]
  all_goals and_intros
  all_goals intros
  all_goals trivial

theorem earlyAsTabled_shapeOf (op : Byte) : EarlyAsTabled (shapeOf op) := by
  unfold shapeOf
  cases hcell : (opcodeRow (op.toNat / 16))[op.toNat % 16]? with
  | none => trivial
  | some sh => exact earlyAsTabled_of_mem_opcodeRow _ sh (List.mem_of_getElem? hcell)

/-- Early come the op code and the early operand bytes of its shape. -/
theorem earlyBytes_of_decodeOperands {op : Byte} {sh : Shape} {bytes rest : List Byte} {i : Instr}
    (htable : EarlyAsTabled sh) (h : decodeOperands op sh bytes = .instr i rest) :
    earlyBytes i = 1 + earlyOperands sh := by
  unfold decodeOperands at h
  split at h
  all_goals cases h
  all_goals apply htable

/-! ### The boundary -/

/-- With nothing pending there is nothing to take. -/
theorem takeFirstPending_eq_none {ls : List IrqLine} (h : ∀ l ∈ ls, l.pending = false) :
    takeFirstPending ls = none := by
  induction ls with
  | nil => rfl
  | cons l ls ih =>
    obtain ⟨hl, hls⟩ := List.forall_mem_cons.mp h
    simp [takeFirstPending, hl, ih hls]

theorem State.maskableRequest_of_quiet {s : State} (h : s.Quiet) : s.maskableRequest = none := by
  obtain ⟨-, -, hmasked | hnone⟩ := h
  · simp [State.maskableRequest, hmasked]
  · simp [State.maskableRequest, takeFirstPending_eq_none hnone]

/-- With no request to take, a step runs what is fetched (R304). -/
theorem step_of_quiet {s : State} (h : s.Quiet) : step s = runFetched s s.fetch := by
  have hrequest := State.maskableRequest_of_quiet h
  obtain ⟨hreset, hnmi, -⟩ := h
  simp [step, hreset, hnmi, hrequest]

/-- Fetching from memory is decoding the bytes that stand at PC. -/
theorem State.fetch_stored {s : State} {n : Nat} {i : Instr} {rest : List Byte}
    (hcode : s.CodeStored s.pc n) (hdecode : decode (s.codeBytes s.pc n) = .instr i rest) :
    s.fetch = (some i, s.tick (earlyBytes i)) := by
  match n, hcode, hdecode with
  | n + 1, ⟨hop, hrest⟩, hdecode =>
    have hoperands := State.fetchOperands_stored (State.codeStored_tick 1 hrest)
      (by rwa [State.codeBytes_tick])
    rw [State.fetch, State.peek_stored hop, State.touch_stored hop, hoperands, State.tick_tick,
      earlyBytes_of_decodeOperands (earlyAsTabled_shapeOf _) hdecode]

/-- Settles O7: the fetch is the decoder on stored bytes, and the step runs what it yields. -/
theorem stepRunsDecodedInstruction : Obligations.StepRunsDecodedInstruction := by
  intro s i hquiet hcode hdecode
  rw [step_of_quiet hquiet, State.fetch_stored hcode hdecode]
  rfl

end Sys2Proof.Machine
end

section
/-! The decoder against the encoder, the table of lengths and the unused op codes: O1 to O6. -/

namespace Sys2Proof.Machine

/-! ### Operand bytes -/

/-- In a cell of this shape, these operand bytes (R71) are those of this instruction. -/
inductive OperandsOf : Shape → List Byte → Instr → Prop
  | none (i : Instr) : OperandsOf (.none i) [] i
  | byte (f : Byte → Instr) (b : Byte) : OperandsOf (.byte f) [b] (f b)
  | word (f : Word → Instr) (nn : Word) : OperandsOf (.word f) [loByte nn, hiByte nn] (f nn)
  | bytes (f : Byte → Byte → Instr) (b c : Byte) : OperandsOf (.bytes f) [b, c] (f b c)
  | lateByte (f : Byte → Byte → Instr) (b c : Byte) : OperandsOf (.lateByte f) [b, c] (f b c)
  | byteWord (f : Byte → Word → Instr) (b : Byte) (nn : Word) :
      OperandsOf (.byteWord f) [b, loByte nn, hiByte nn] (f b nn)
  | wordBytes (f : Word → Byte → Byte → Instr) (nn : Word) (b c : Byte) :
      OperandsOf (.wordBytes f) [loByte nn, hiByte nn, b, c] (f nn b c)

/-- What the decoder takes from a list are the operands of what it answers. -/
theorem decodeOperands_eq_instr_iff {op : Byte} {sh : Shape} {bytes rest : List Byte} {i : Instr} :
    decodeOperands op sh bytes = .instr i rest ↔
      ∃ operands, OperandsOf sh operands i ∧ bytes = operands ++ rest := by
  constructor
  · intro h
    unfold decodeOperands at h
    split at h
    case h_2 i => cases h; exact ⟨_, .none i, rfl⟩
    case h_3 f b _ => cases h; exact ⟨_, .byte f b, rfl⟩
    case h_4 f lo hi _ => cases h; exact ⟨_, .word f (wordOf hi lo), by simp⟩
    case h_5 f b c _ => cases h; exact ⟨_, .bytes f b c, rfl⟩
    case h_6 f b c _ => cases h; exact ⟨_, .lateByte f b c, rfl⟩
    case h_7 f b lo hi _ => cases h; exact ⟨_, .byteWord f b (wordOf hi lo), by simp⟩
    case h_8 f lo hi b c _ => cases h; exact ⟨_, .wordBytes f (wordOf hi lo) b c, by simp⟩
    all_goals cases h
  · rintro ⟨operands, hoperands, rfl⟩
    cases hoperands <;> simp [decodeOperands]

/-- How many bytes an instruction of this shape has (R71); 0 where there is none. -/
def shapeLength : Shape → Nat
  | .unused => 0
  | .none _ => 1
  | .byte _ => 2
  | .word _ | .bytes _ | .lateByte _ => 3
  | .byteWord _ => 4
  | .wordBytes _ => 5

/-- A shape reads a whole list exactly when the list has the shape's length. -/
theorem decodeOperands_whole_iff (op : Byte) (sh : Shape) (bytes : List Byte) :
    (∃ i, decodeOperands op sh bytes = .instr i []) ↔ bytes.length + 1 = shapeLength sh := by
  constructor
  · rintro ⟨i, h⟩
    obtain ⟨operands, hoperands, rfl⟩ := decodeOperands_eq_instr_iff.mp h
    cases hoperands <;> rfl
  · intro h
    cases sh with
    | unused => cases h
    | none i =>
      match bytes, h with
      | [], _ => exact ⟨_, rfl⟩
    | byte f =>
      match bytes, h with
      | [_], _ => exact ⟨_, rfl⟩
    | word f | bytes f | lateByte f =>
      match bytes, h with
      | [_, _], _ => exact ⟨_, rfl⟩
    | byteWord f =>
      match bytes, h with
      | [_, _, _], _ => exact ⟨_, rfl⟩
    | wordBytes f =>
      match bytes, h with
      | [_, _, _, _], _ => exact ⟨_, rfl⟩

/-- The decoder answers unused op code only for a cell without an instruction. -/
theorem decodeOperands_eq_unusedOpcode_iff (op : Byte) (sh : Shape) (bytes : List Byte) :
    decodeOperands op sh bytes = .unusedOpcode op ↔ sh = .unused := by
  constructor
  · intro h
    unfold decodeOperands at h
    split at h
    case h_1 => rfl
    all_goals cases h
  · rintro rfl
    rfl

/-! ### The matrix, cell by cell -/

/-- The cells of a row, from the op code `n` on, have the property. -/
def CellsFrom (P : Byte → Shape → Prop) : Nat → List Shape → Prop
  | _, [] => True
  | n, sh :: shs => P (BitVec.ofNat 8 n) sh ∧ CellsFrom P (n + 1) shs

theorem CellsFrom.getElem? {P : Byte → Shape → Prop} {shs : List Shape} {n k : Nat} {sh : Shape}
    (hcells : CellsFrom P n shs) (hk : shs[k]? = some sh) : P (BitVec.ofNat 8 (n + k)) sh := by
  induction shs generalizing n k with
  | nil => cases hk
  | cons head tail ih =>
    obtain ⟨hhead, htail⟩ := hcells
    cases k with
    | zero =>
      cases hk
      exact hhead
    | succ k =>
      rw [Nat.add_comm k, ← Nat.add_assoc]
      exact ih htail hk

theorem opcodeRow_length {row : Nat} (h : row < 16) : (opcodeRow row).length = 16 := by
  interval_cases row <;> rfl

/-- What the cells of all sixteen rows have, each op code has with its shape (R70, R74). -/
theorem shapeOf_of_cells {P : Byte → Shape → Prop}
    (hrows : ∀ row < 16, CellsFrom P (16 * row) (opcodeRow row)) (op : Byte) :
    P op (shapeOf op) := by
  have hrow : op.toNat / 16 < 16 := by omega
  have hcolumn : op.toNat % 16 < (opcodeRow (op.toNat / 16)).length := by
    rw [opcodeRow_length hrow]
    omega
  have hcell := (hrows _ hrow).getElem? (List.getElem?_eq_getElem hcolumn)
  rw [Nat.div_add_mod, BitVec.ofNat_toNat, BitVec.setWidth_eq] at hcell
  rwa [shapeOf, List.getElem?_eq_getElem hcolumn]

/-- What the cell of an op code says, checked against the encoder and the list of R76. -/
def CellAsTabled (op : Byte) : Shape → Prop
  | .unused => op ∈ unusedOpcodes
  | .none i => encode i = [op]
  | .byte f => ∀ b, encode (f b) = [op, b]
  | .word f => ∀ nn, encode (f nn) = [op, loByte nn, hiByte nn]
  | .bytes f => ∀ b c, encode (f b c) = [op, b, c]
  | .lateByte f => ∀ b c, encode (f b c) = [op, b, c]
  | .byteWord f => ∀ b nn, encode (f b nn) = [op, b, loByte nn, hiByte nn]
  | .wordBytes f => ∀ nn b c, encode (f nn b c) = [op, loByte nn, hiByte nn, b, c]

theorem cellAsTabled_shapeOf (op : Byte) : CellAsTabled op (shapeOf op) := by
  refine shapeOf_of_cells (fun row hrow => ?_) op
  interval_cases row
  all_goals simp only [opcodeRow, CellsFrom, CellAsTabled]
  all_goals and_intros
  all_goals intros
  all_goals trivial

/-- The table of lengths is the lengths of the cells (R71, R77). -/
theorem opcodeLength_eq (op : Byte) : opcodeLength op = shapeLength (shapeOf op) := by
  refine shapeOf_of_cells (P := fun op sh => opcodeLength op = shapeLength sh) (fun row hrow => ?_) op
  interval_cases row
  all_goals and_intros
  all_goals trivial

theorem shapeOf_eq_unused_iff (op : Byte) : shapeOf op = .unused ↔ op ∈ unusedOpcodes := by
  constructor
  · intro h
    have hcell := cellAsTabled_shapeOf op
    rwa [h] at hcell
  · have hlist : ∀ u ∈ unusedOpcodes, shapeOf u = .unused := by
      simp only [unusedOpcodes, List.forall_mem_cons]
      and_intros
      all_goals intros
      all_goals trivial
    exact hlist op

/-! ### Both directions -/

/-- Operands found in the cell of an op code are encoded with that op code before them. -/
theorem encode_of_operandsOf {op : Byte} {operands : List Byte} {i : Instr}
    (h : OperandsOf (shapeOf op) operands i) : encode i = op :: operands := by
  have hcell := cellAsTabled_shapeOf op
  generalize shapeOf op = sh at h hcell
  cases h
  all_goals apply hcell

/-- The encoder writes an op code whose cell reads the operands written after it. -/
theorem exists_operandsOf_encode (i : Instr) :
    ∃ op operands, encode i = op :: operands ∧ OperandsOf (shapeOf op) operands i := by
  cases i
  all_goals exact ⟨_, _, rfl, by constructor⟩

/-- Settles O1: the cell of the op code written first reads what was written after it. -/
theorem decodeOfEncode : Obligations.DecodeOfEncode := by
  intro i rest
  obtain ⟨op, operands, hencode, hoperands⟩ := exists_operandsOf_encode i
  rw [hencode]
  exact decodeOperands_eq_instr_iff.mpr ⟨operands, hoperands, rfl⟩

/-- Settles O2, by what the encoder makes of each cell of the matrix. -/
theorem encodeOfDecode : Obligations.EncodeOfDecode := by
  intro bytes i rest h
  cases bytes with
  | nil => cases h
  | cons op tail =>
    obtain ⟨operands, hoperands, rfl⟩ := decodeOperands_eq_instr_iff.mp h
    rw [encode_of_operandsOf hoperands]
    rfl

/-! ### The checks on raw bytes -/

theorem wellFormed_cons_iff (op : Byte) (rest : List Byte) :
    wellFormed (op :: rest) = true ↔
      op ∉ unusedOpcodes ∧ rest.length + 1 = opcodeLength op := by
  simp [wellFormed, opcodeDefined, lengthFits]

/-- An op code that asks for a byte at least is used. -/
theorem not_mem_unusedOpcodes_of_length {op : Byte} {n : Nat} (h : n + 1 = opcodeLength op) :
    op ∉ unusedOpcodes := by
  intro hunused
  rw [opcodeLength_eq, (shapeOf_eq_unused_iff op).mpr hunused] at h
  cases h

/-- Settles O3: the table of lengths is the lengths of the cells. -/
theorem wellFormedIffDecodes : Obligations.WellFormedIffDecodes := by
  intro bytes
  cases bytes with
  | nil => simp [wellFormed, opcodeDefined, decode]
  | cons op rest =>
    calc wellFormed (op :: rest) = true
        ↔ op ∉ unusedOpcodes ∧ rest.length + 1 = opcodeLength op := wellFormed_cons_iff op rest
      _ ↔ rest.length + 1 = opcodeLength op :=
        and_iff_right_of_imp not_mem_unusedOpcodes_of_length
      _ ↔ rest.length + 1 = shapeLength (shapeOf op) := by rw [opcodeLength_eq]
      _ ↔ ∃ i, decode (op :: rest) = .instr i [] :=
        (decodeOperands_whole_iff op (shapeOf op) rest).symm

/-- Settles O4: the cells without an instruction are those of the 27 op codes. -/
theorem unusedOpcodesAreThe27 : Obligations.UnusedOpcodesAreThe27 := fun op rest =>
  (decodeOperands_eq_unusedOpcode_iff op (shapeOf op) rest).trans (shapeOf_eq_unused_iff op)

/-- Settles O5, number by number. -/
theorem bitNumberFieldOfOpcode : Obligations.BitNumberFieldOfOpcode := by
  intro b n r
  fin_cases b
  all_goals exact ⟨rfl, rfl, rfl, rfl, rfl⟩

/-- Settles O6: each word is decoded as it stands. -/
theorem sampleWordsDecode : Obligations.SampleWordsDecode := by
  unfold Obligations.SampleWordsDecode
  decide

end Sys2Proof.Machine
end

section
/-! Where a step stops: O9. -/

namespace Sys2Proof.Machine

/-! ### The boundary -/

/-- No source is taken only when none requests. -/
theorem pending_eq_false_of_takeFirstPending {ls : List IrqLine} (h : takeFirstPending ls = none) :
    ∀ l ∈ ls, l.pending = false := by
  induction ls with
  | nil => simp
  | cons l ls ih =>
    unfold takeFirstPending at h
    split at h
    next => cases h
    next hl =>
      exact List.forall_mem_cons.mpr ⟨Bool.eq_false_iff.mpr hl, ih (Option.map_eq_none_iff.mp h)⟩

/-- A boundary is quiet exactly when `step` finds no request to take (R304). -/
theorem State.quiet_iff (s : State) :
    s.Quiet ↔
      s.resetPending = false ∧ s.nmiPending = false ∧ s.maskableRequest = none := by
  constructor
  · intro hquiet
    have hrequest := State.maskableRequest_of_quiet hquiet
    obtain ⟨hreset, hnmi, -⟩ := hquiet
    exact ⟨hreset, hnmi, hrequest⟩
  · rintro ⟨hreset, hnmi, hrequest⟩
    refine ⟨hreset, hnmi, ?_⟩
    unfold State.maskableRequest at hrequest
    split at hrequest
    next hmasked => exact .inl hmasked
    next => exact .inr (pending_eq_false_of_takeFirstPending hrequest)

/-- Where a request is taken, the step is its sequence and completes. -/
theorem step_completes_of_not_quiet {s : State} (h : ¬ s.Quiet) : ∃ t, step s = .next t := by
  unfold step
  split
  next => exact ⟨_, rfl⟩
  next hreset =>
    split
    next => exact ⟨_, rfl⟩
    next hnmi =>
      split
      next => exact ⟨_, rfl⟩
      next hrequest =>
        exact absurd (s.quiet_iff.mpr
          ⟨Bool.eq_false_iff.mpr hreset, Bool.eq_false_iff.mpr hnmi, hrequest⟩) h

/-! ### The fetch -/

theorem State.fetchOperands_eq_none_iff (s : State) (a : Word) (sh : Shape) :
    (s.fetchOperands a sh).1 = none ↔ sh = .unused := by
  cases sh <;> simp [State.fetchOperands]

/-- The fetch yields no instruction exactly on an unused op code (R76). -/
theorem State.fetch_eq_none_iff (s : State) :
    s.fetch.1 = none ↔ s.peek s.pc ∈ unusedOpcodes :=
  ((s.touch s.pc).fetchOperands_eq_none_iff (s.pc + 1) (shapeOf (s.peek s.pc))).trans
    (shapeOf_eq_unused_iff _)

/-- What was fetched faults where it is no instruction and completes otherwise (R300, R315). -/
theorem runFetched_outcome (s : State) (r : Option Instr × State) :
    (r.1 = none ∧ runFetched s r = .fault (.unusedOpcode (s.peek s.pc) s.pc)) ∨
      (r.1 ≠ none ∧ ∃ t, runFetched s r = .next t) := by
  obtain ⟨_ | i, u⟩ := r
  case none => exact .inl ⟨rfl, rfl⟩
  case some =>
    obtain ⟨t, ht, -⟩ := exec_writesAt i u
    exact .inr ⟨nofun, t, ht⟩

/-! ### The step -/

/-- The machine stops in this state: the op code to be executed next is not used. -/
def State.Stops (s : State) : Prop := s.Quiet ∧ s.peek s.pc ∈ unusedOpcodes

/-- A step of a state that stops is the fault of R315; any other step completes. -/
theorem step_outcome (s : State) :
    (s.Stops ∧ step s = .fault (.unusedOpcode (s.peek s.pc) s.pc)) ∨
      (¬ s.Stops ∧ ∃ t, step s = .next t) := by
  by_cases hquiet : s.Quiet
  · rw [step_of_quiet hquiet]
    obtain ⟨hnone, hfault⟩ | ⟨hsome, hnext⟩ := runFetched_outcome s s.fetch
    · exact .inl ⟨⟨hquiet, s.fetch_eq_none_iff.mp hnone⟩, hfault⟩
    · exact .inr ⟨fun hstops => hsome (s.fetch_eq_none_iff.mpr hstops.2), hnext⟩
  · exact .inr ⟨fun hstops => hquiet hstops.1, step_completes_of_not_quiet hquiet⟩

/-- Settles O9, by the two outcomes of a step. -/
theorem stepStopsOnlyOnUnusedOpcode : Obligations.StepStopsOnlyOnUnusedOpcode := by
  intro s
  obtain ⟨hstops, hstep⟩ | ⟨hgoes, t, hstep⟩ := step_outcome s
  · obtain ⟨hquiet, hunused⟩ := hstops
    simp [hstep, hquiet, hunused, eq_comm]
  · rw [hstep]
    exact ⟨nofun, fun f => ⟨nofun, fun ⟨hquiet, hunused, _⟩ => absurd ⟨hquiet, hunused⟩ hgoes⟩⟩

end Sys2Proof.Machine
end

section
/-! The effective address of each mode by arithmetic, the operand byte, and the memory that an
instruction does not store to: O10, O11, O58. -/

namespace Sys2Proof.Machine

/-! ### Page zero addresses and indexed sums as numbers -/

@[simp] theorem zext_toNat (b : Byte) : (zext b).toNat = b.toNat := by
  have h : b.toNat < 256 := b.isLt
  simp only [zext, BitVec.toNat_setWidth]
  omega

/-- A sum of bytes stays in page zero (R104, R105). -/
theorem zext_add_toNat (n index : Byte) :
    (zext (n + index)).toNat = (n.toNat + index.toNat) % 256 := by
  rw [zext_toNat, BitVec.toNat_add]

/-- A 16-bit base plus an index (R107, R109, R110) wraps at the end of memory (R46). -/
theorem add_zext_toNat (base : Word) (index : Byte) :
    (base + zext index).toNat = (base.toNat + index.toNat) % 65536 := by
  rw [BitVec.toNat_add, zext_toNat]

/-! ### The effective address -/

/-- The index is added to the pointer (R109). -/
theorem State.resolve_indX_fst (s : State) (k : Access) (n : Byte) :
    (s.resolve k (.indX n)).1 = (s.read16zp n).1 + zext s.x := rfl

/-- The pointer of (n) and (n),X, where its two bytes are memory (R108). -/
theorem State.read16zp_toNat {s : State} {n : Byte} (h : s.Stored (zext n))
    (h' : s.Stored (zext (n + 1))) :
    (s.read16zp n).1.toNat =
      256 * (s.byteAt (zext (n + 1))).toNat + (s.byteAt (zext n)).toNat := by
  rw [State.read16zp_value h h', wordOf_toNat]

/-- Settles O10, mode by mode. -/
theorem effectiveAddressOfEachMode : Obligations.EffectiveAddressOfEachMode := by
  intro s k n nn
  refine ⟨zext_toNat n, zext_add_toNat n s.x, zext_add_toNat n s.y, rfl, add_zext_toNat nn s.x,
    add_zext_toNat nn s.y, fun h h' => ⟨State.read16zp_toNat h h', ?_⟩⟩
  rw [State.resolve_indX_fst, add_zext_toNat, State.read16zp_toNat h h']

/-! ### The operand byte -/

/-- Forming the address leaves what memory holds, and where memory stands, as they were. -/
theorem State.peek_after_resolve {s : State} {k : Access} {m : Mode} {a : Word}
    (h : s.Stored a) : (s.resolve k m).2.peek a = s.byteAt a := by
  have hkind : (s.resolve k m).2.kindAt a = s.kindAt a :=
    State.kindAt_congr (s.resolve_params k m) a
  have hstored : (s.resolve k m).2.Stored a := by rwa [State.Stored, hkind]
  rw [State.peek_stored hstored, State.byteAt_congr (s.resolve_mem k m)]

/-- A change of nothing but the record of the bus, in the form of a frame. -/
theorem State.eq_with_bus {s t : State} (h : ∃ b : Bus, t = { s with bus := b }) :
    t = { s with bus := t.bus } := by
  obtain ⟨b, rfl⟩ := h
  rfl

/-- Settles O11: what is read is read after the address is formed, and both change only the
record of the bus. -/
theorem operandByteIsStoredByte : Obligations.OperandByteIsStoredByte := fun s =>
  ⟨fun _ => rfl,
    fun _ hstored => State.peek_after_resolve hstored,
    fun o => State.eq_with_bus (s.operand_only_bus o),
    fun k m => State.eq_with_bus (s.resolve_only_bus k m)⟩

/-! ### Memory outside the stores -/

/-- What an instruction makes of memory are writes at the addresses of the table. -/
theorem writesAt_of_exec {i : Instr} {s t : State} (h : exec i s = .next t) :
    WritesAt s t (storesTo s i) := by
  obtain ⟨u, hu, hwrites⟩ := exec_writesAt i s
  rw [hu] at h
  cases h
  exact hwrites

/-- An address that is none of those written keeps its byte. -/
theorem WritesAt.byteAt {s t : State} {as : List Word} (h : WritesAt s t as) {a : Word}
    (ha : a ∉ as) : t.byteAt a = s.byteAt a := by
  obtain ⟨ws, rfl, hmem⟩ := h
  have hother : ∀ w ∈ ws, a ≠ w.1 := fun w hw heq => ha (heq ▸ List.mem_map_of_mem hw)
  rw [State.byteAt_congr hmem, State.byteAt_writes_of_not_mem hother]

/-- Settles O58, by the writes that an instruction makes on the bus. -/
theorem memoryOutsideStoresUnchanged : Obligations.MemoryOutsideStoresUnchanged :=
  fun _ _ _ h _ ha => (writesAt_of_exec h).byteAt ha

end Sys2Proof.Machine
end

section
/-! Loads, stores, EXC and the register transfers (spec/41_load_store_transfer.md): O16 to O19. -/

namespace Sys2Proof.Machine

/-! ### The forms of an instruction -/

/-- The form is the instruction of its op code, as long as its operand asks for, and its execution
reads that operand and lets `g` use the byte. -/
structure ReadForm.RunsAs (f : ReadForm) (g : State → Byte → State) : Prop where
  encoded : IsEncoded f.op f.instr (operandLength f.operand)
  exec_eq : ∀ s : State, exec f.instr s = .next (s.withOperand f.operand g)

/-- The form is the instruction of its op code, as long as its operand asks for, and its execution
stores the byte `v` of the state. -/
structure MemForm.Stores (f : MemForm) (v : State → Byte) : Prop where
  encoded : IsEncoded f.op f.instr (modeLength f.mode)
  exec_eq : ∀ s : State, exec f.instr s = .next (s.storeTo f.mode (v s))

theorem runsAs_of_mem_ldaForms {n : Byte} {nn : Word} {f : ReadForm} (hf : f ∈ ldaForms n nn) :
    f.RunsAs State.loadA := by
  fin_cases hf <;> exact ⟨⟨rfl, rfl⟩, fun _ => rfl⟩

theorem runsAs_of_mem_ldxForms {n : Byte} {nn : Word} {f : ReadForm} (hf : f ∈ ldxForms n nn) :
    f.RunsAs State.loadX := by
  fin_cases hf <;> exact ⟨⟨rfl, rfl⟩, fun _ => rfl⟩

theorem runsAs_of_mem_ldyForms {n : Byte} {nn : Word} {f : ReadForm} (hf : f ∈ ldyForms n nn) :
    f.RunsAs State.loadY := by
  fin_cases hf <;> exact ⟨⟨rfl, rfl⟩, fun _ => rfl⟩

theorem stores_of_mem_staForms {n : Byte} {nn : Word} {f : MemForm} (hf : f ∈ staForms n nn) :
    f.Stores State.a := by
  fin_cases hf <;> exact ⟨⟨rfl, rfl⟩, fun _ => rfl⟩

theorem stores_of_mem_stxForms {n : Byte} {nn : Word} {f : MemForm} (hf : f ∈ stxForms n nn) :
    f.Stores State.x := by
  fin_cases hf <;> exact ⟨⟨rfl, rfl⟩, fun _ => rfl⟩

theorem stores_of_mem_styForms {n : Byte} {nn : Word} {f : MemForm} (hf : f ∈ styForms n nn) :
    f.Stores State.y := by
  fin_cases hf <;> exact ⟨⟨rfl, rfl⟩, fun _ => rfl⟩

/-! ### Loads -/

/-- What uses the operand finds the state as it was but for the record of the bus (R119). -/
theorem State.withOperand_eq (s : State) (o : Operand) (g : State → Byte → State) :
    s.withOperand o g =
      (g { s with bus := (s.operand o).2.bus } (s.operand o).1).advance (operandLength o) := by
  rw [← State.eq_with_bus (s.operand_only_bus o)]
  rfl

theorem State.withOperand_loadA_eq (s : State) (o : Operand) :
    s.withOperand o State.loadA =
      { s with
        a := (s.operand o).1, p := s.p.setNZ (s.operand o).1
        pc := s.pc + BitVec.ofNat 16 (operandLength o)
        bus := (s.withOperand o State.loadA).bus } :=
  s.withOperand_eq o State.loadA

theorem State.withOperand_loadX_eq (s : State) (o : Operand) :
    s.withOperand o State.loadX =
      { s with
        x := (s.operand o).1, p := s.p.setNZ (s.operand o).1
        pc := s.pc + BitVec.ofNat 16 (operandLength o)
        bus := (s.withOperand o State.loadX).bus } :=
  s.withOperand_eq o State.loadX

theorem State.withOperand_loadY_eq (s : State) (o : Operand) :
    s.withOperand o State.loadY =
      { s with
        y := (s.operand o).1, p := s.p.setNZ (s.operand o).1
        pc := s.pc + BitVec.ofNat 16 (operandLength o)
        bus := (s.withOperand o State.loadY).bus } :=
  s.withOperand_eq o State.loadY

/-- Settles O16: every form is a load of its register, and a load is known by its frame. -/
theorem loadResults : Obligations.LoadResults := by
  intro s n nn
  refine ⟨fun f hf => ?lda, fun f hf => ?ldx, fun f hf => ?ldy⟩
  case lda =>
    have hrun := runsAs_of_mem_ldaForms hf
    exact ⟨hrun.encoded, _, hrun.exec_eq s, s.withOperand_loadA_eq f.operand⟩
  case ldx =>
    have hrun := runsAs_of_mem_ldxForms hf
    exact ⟨hrun.encoded, _, hrun.exec_eq s, s.withOperand_loadX_eq f.operand⟩
  case ldy =>
    have hrun := runsAs_of_mem_ldyForms hf
    exact ⟨hrun.encoded, _, hrun.exec_eq s, s.withOperand_loadY_eq f.operand⟩

/-! ### Stores -/

/-- Where memory is that after one write, it has taken exactly the byte written. -/
theorem storesBytes_of_one_write {s t : State} {a : Word} {v : Byte}
    (h : t.mem = (s.writes [(a, v)]).mem) : StoresBytes s t [(a, v)] := by
  obtain ⟨hwritten, hother⟩ :=
    State.storesBytes_writes (s := s) (ws := [(a, v)]) (List.nodup_singleton a)
  exact ⟨fun w hw => (State.byteAt_congr h w.1).trans (hwritten w hw),
    fun b hb => (State.byteAt_congr h b).trans (hother b hb)⟩

/-- A store changes memory and PC, and of memory the byte at the effective address. -/
theorem State.storeTo_result (s : State) (m : Mode) (v : Byte) :
    s.storeTo m v =
        { s with
          mem := (s.storeTo m v).mem, pc := s.pc + BitVec.ofNat 16 (modeLength m)
          bus := (s.storeTo m v).bus } ∧
      StoresBytes s (s.storeTo m v) [((s.resolve .write m).1, v)] := by
  refine ⟨?_, storesBytes_of_one_write (s.storeTo_writes m v)⟩
  rw [State.storeTo_mem]
  exact s.storeTo_eq m v

/-- Settles O17: every form of STA, STX, STY is a store of its register; STI writes its constant
at its page zero address. -/
theorem storeResults : Obligations.StoreResults := by
  intro s n nn
  refine ⟨fun f hf => ?sta, fun f hf => ?stx, fun f hf => ?sty, fun constant => ?sti⟩
  case sta =>
    have hstores := stores_of_mem_staForms hf
    exact ⟨hstores.encoded, _, hstores.exec_eq s, s.storeTo_result f.mode s.a⟩
  case stx =>
    have hstores := stores_of_mem_stxForms hf
    exact ⟨hstores.encoded, _, hstores.exec_eq s, s.storeTo_result f.mode s.x⟩
  case sty =>
    have hstores := stores_of_mem_styForms hf
    exact ⟨hstores.encoded, _, hstores.exec_eq s, s.storeTo_result f.mode s.y⟩
  case sti =>
    exact ⟨⟨rfl, rfl⟩, (s.write (zext n) constant).advance 3, rfl, rfl,
      storesBytes_of_one_write rfl⟩

/-! ### Exchange -/

/-- A takes what is read at the effective address (R137). -/
theorem State.exchange_a (s : State) (m : Mode) :
    (s.exchange m).a = (s.resolve .write m).2.peek (s.resolve .write m).1 := rfl

/-- EXC makes one write, of the old A (R137). -/
theorem State.exchange_writes (s : State) (m : Mode) :
    (s.exchange m).mem = (s.writes [((s.resolve .write m).1, s.a)]).mem := by
  have hwrite : (s.exchange m).mem =
      ((s.resolve .write m).2.writes [((s.resolve .write m).1, s.a)]).mem := rfl
  rw [hwrite, State.writes_mem_congr (s.resolve_mem .write m) (s.resolve_params .write m)]

/-- EXC changes A, memory and PC (R137). -/
theorem State.exchange_eq (s : State) (m : Mode) :
    s.exchange m =
      { s with
        a := (s.exchange m).a, mem := (s.exchange m).mem
        pc := s.pc + BitVec.ofNat 16 (modeLength m), bus := (s.exchange m).bus } := by
  obtain ⟨b, hb⟩ := s.resolve_only_bus .write m
  simp only [State.exchange, State.read, State.touch, State.write, State.setA, State.advance,
    State.setPc, hb]

/-- Settles O18: the frame of the exchange, the byte read and the byte written. -/
theorem exchangeResult : Obligations.ExchangeResult := fun s n =>
  ⟨⟨rfl, rfl⟩, s.exchange (.zpX n), rfl, s.exchange_eq (.zpX n),
    fun hstored => (s.exchange_a (.zpX n)).trans (State.peek_after_resolve hstored),
    storesBytes_of_one_write (s.exchange_writes (.zpX n))⟩

/-! ### Transfers -/

theorem State.implied_loadA_eq (s : State) (v : Byte) :
    s.implied.loadA v =
      { s with
        a := v, p := s.p.setNZ v, pc := s.pc + 1, bus := (s.implied.loadA v).bus } := rfl

theorem State.implied_loadX_eq (s : State) (v : Byte) :
    s.implied.loadX v =
      { s with
        x := v, p := s.p.setNZ v, pc := s.pc + 1, bus := (s.implied.loadX v).bus } := rfl

theorem State.implied_loadY_eq (s : State) (v : Byte) :
    s.implied.loadY v =
      { s with
        y := v, p := s.p.setNZ v, pc := s.pc + 1, bus := (s.implied.loadY v).bus } := rfl

/-- Only TXS moves a byte without describing it in N and Z (R143). -/
theorem State.implied_setSp_eq (s : State) (v : Byte) :
    s.implied.setSp v =
      { s with sp := v, pc := s.pc + 1, bus := (s.implied.setSp v).bus } := rfl

/-- Settles O19: five transfers are loads of a register's byte, TXS sets S alone. -/
theorem transferResults : Obligations.TransferResults := by
  intro s
  refine ⟨?tax, ?tay, ?txa, ?tya, ?tsx, ?txs⟩
  case tax => exact ⟨⟨rfl, rfl⟩, _, rfl, s.implied_loadX_eq s.a⟩
  case tay => exact ⟨⟨rfl, rfl⟩, _, rfl, s.implied_loadY_eq s.a⟩
  case txa => exact ⟨⟨rfl, rfl⟩, _, rfl, s.implied_loadA_eq s.x⟩
  case tya => exact ⟨⟨rfl, rfl⟩, _, rfl, s.implied_loadA_eq s.y⟩
  case tsx => exact ⟨⟨rfl, rfl⟩, _, rfl, s.implied_loadX_eq s.sp⟩
  case txs => exact ⟨⟨rfl, rfl⟩, _, rfl, s.implied_setSp_eq s.x⟩

end Sys2Proof.Machine
end

section
/-! ADC, ADD and SBC (spec/42_arithmetic_logic.md R160 to R166): O20 to O23. -/

namespace Sys2Proof.Machine

/-! ### A byte as a signed number -/

/-- A byte of 128 or more reads as a negative signed number (R3). -/
theorem Byte.toInt_eq (b : Byte) :
    b.toInt = if 128 ≤ b.toNat then (b.toNat : Int) - 256 else b.toNat := by
  simp [BitVec.toInt_eq_msb_cond, BitVec.msb_eq_decide]

/-- Two bytes differ in bit 7 when one alone is negative. -/
theorem Byte.msb_xor_eq_true_iff (a b : Byte) :
    (a ^^^ b).msb = true ↔ ¬(128 ≤ a.toNat ↔ 128 ≤ b.toNat) := by
  rw [BitVec.msb_xor, Bool.xor_iff_ne, ne_eq, BitVec.msb_eq_decide, BitVec.msb_eq_decide,
    decide_eq_decide]

theorem bit01_eq_zero_or_one (c : Bool) : bit01 c = 0 ∨ bit01 c = 1 := by
  cases c
  · exact .inl rfl
  · exact .inr rfl

/-! ### Binary results -/

theorem addBin_toNat (a m : Byte) (cin : Bool) :
    (addBin a m cin).r.toNat = (a.toNat + m.toNat + bit01 cin) % 256 :=
  BitVec.toNat_ofNat _ 8

theorem addBin_c (a m : Byte) (cin : Bool) :
    (addBin a m cin).c = true ↔ a.toNat + m.toNat + bit01 cin > 255 :=
  decide_eq_true_iff

/-- V says that both operands differ from the result in sign (R160). -/
theorem addBin_v_iff_signs (a m : Byte) (cin : Bool) :
    (addBin a m cin).v = true ↔
      ¬(128 ≤ a.toNat ↔ 128 ≤ (addBin a m cin).r.toNat) ∧
        ¬(128 ≤ m.toNat ↔ 128 ≤ (addBin a m cin).r.toNat) := by
  rw [← Byte.msb_xor_eq_true_iff, ← Byte.msb_xor_eq_true_iff, ← Bool.and_eq_true,
    ← BitVec.msb_and]
  rfl

/-- That is where the signed sum leaves -128..127. -/
theorem addBin_v (a m : Byte) (cin : Bool) :
    (addBin a m cin).v = true ↔
      a.toInt + m.toInt + bit01 cin > 127 ∨ a.toInt + m.toInt + bit01 cin < -128 := by
  have hr := addBin_toNat a m cin
  have hcin := bit01_eq_zero_or_one cin
  rw [addBin_v_iff_signs, Byte.toInt_eq a, Byte.toInt_eq m]
  omega

theorem subBin_toNat (a m : Byte) (cin : Bool) :
    ((subBin a m cin).r.toNat : Int) = ((a.toNat : Int) - m.toNat - (1 - bit01 cin)) % 256 := by
  simp only [subBin, BitVec.toNat_ofInt]
  omega

theorem subBin_c (a m : Byte) (cin : Bool) :
    (subBin a m cin).c = true ↔ (a.toNat : Int) - m.toNat - (1 - bit01 cin) ≥ 0 :=
  decide_eq_true_iff

/-- V says that A differs in sign from the operand and from the result (D32). -/
theorem subBin_v_iff_signs (a m : Byte) (cin : Bool) :
    (subBin a m cin).v = true ↔
      ¬(128 ≤ a.toNat ↔ 128 ≤ m.toNat) ∧
        ¬(128 ≤ a.toNat ↔ 128 ≤ (subBin a m cin).r.toNat) := by
  rw [← Byte.msb_xor_eq_true_iff, ← Byte.msb_xor_eq_true_iff, ← Bool.and_eq_true,
    ← BitVec.msb_and]
  rfl

/-- That is where the signed difference leaves -128..127. -/
theorem subBin_v (a m : Byte) (cin : Bool) :
    (subBin a m cin).v = true ↔
      a.toInt - m.toInt - (1 - bit01 cin) > 127 ∨ a.toInt - m.toInt - (1 - bit01 cin) < -128 := by
  have hr := subBin_toNat a m cin
  have hcin := bit01_eq_zero_or_one cin
  rw [subBin_v_iff_signs, Byte.toInt_eq a, Byte.toInt_eq m]
  omega

/-! ### Decimal results -/

theorem isBcd_iff (b : Byte) : isBcd b = true ↔ b.toNat / 16 ≤ 9 ∧ b.toNat % 16 ≤ 9 := by
  simp [isBcd]

theorem bcd_toNat {n : Nat} (h : n < 100) : (bcd n).toNat = n / 10 * 16 + n % 10 := by
  rw [bcd, BitVec.toNat_ofNat]
  omega

theorem isBcd_bcd {n : Nat} (h : n < 100) : isBcd (bcd n) = true := by
  rw [isBcd_iff, bcd_toNat h]
  omega

theorem dec_bcd {n : Nat} (h : n < 100) : dec (bcd n) = n := by
  rw [dec, bcd_toNat h]
  omega

/-- A result in decimal mode: V = 0, N and Z describe the byte (R161). -/
def decimalResult (r : Byte) (c : Bool) : AluResult where
  r := r
  n := r.msb
  v := false
  z := decide (r = 0)
  c := c

theorem addDec_of_bcd {a m : Byte} (ha : isBcd a = true) (hm : isBcd m = true) (cin : Bool)
    (k : Nat) :
    addDec a m cin k = decimalResult (bcd ((dec a + dec m + bit01 cin) % 100))
      (decide (dec a + dec m + bit01 cin > 99)) := by
  simp [addDec, ha, hm, decimalResult]

theorem subDec_of_bcd {a m : Byte} (ha : isBcd a = true) (hm : isBcd m = true) (cin : Bool)
    (k : Nat) :
    subDec a m cin k =
      decimalResult (bcd (((dec a : Int) - dec m - (1 - bit01 cin)) % 100).toNat)
        (decide ((dec a : Int) - dec m - (1 - bit01 cin) ≥ 0)) := by
  simp [subDec, ha, hm, decimalResult]

theorem addDec_of_not_bcd {a m : Byte} (h : isBcd a = false ∨ isBcd m = false) (cin : Bool)
    (k : Nat) : addDec a m cin k = decimalAny k := by
  obtain h | h := h <;> simp [addDec, h]

theorem subDec_of_not_bcd {a m : Byte} (h : isBcd a = false ∨ isBcd m = false) (cin : Bool)
    (k : Nat) : subDec a m cin k = decimalAny k := by
  obtain h | h := h <;> simp [subDec, h]

/-! ### The instructions in the two modes -/

/-- `s` with the result in A and its flags in P, PC past an instruction with this operand, and
`b` as the record of the bus. -/
def State.afterAlu (s : State) (o : Operand) (r : AluResult) (b : Bus) : State :=
  { s with
    a := r.r, p := s.p.setAlu r, pc := s.pc + BitVec.ofNat 16 (operandLength o), bus := b }

/-- Execution of the form in `s` completes with this result. -/
def ReadForm.Yields (f : ReadForm) (s : State) (r : AluResult) : Prop :=
  ∃ b : Bus, exec f.instr s = .next (s.afterAlu f.operand r b)

theorem State.addTo_of_binary {s : State} (hd : s.p.d = false) (m : Byte) (cin : Bool) :
    s.addTo m cin =
      { s with a := (addBin s.a m cin).r, p := s.p.setAlu (addBin s.a m cin) } := by
  simp [State.addTo, hd, State.setA, State.setP]

theorem State.subtractFrom_of_binary {s : State} (hd : s.p.d = false) (m : Byte) (cin : Bool) :
    s.subtractFrom m cin =
      { s with a := (subBin s.a m cin).r, p := s.p.setAlu (subBin s.a m cin) } := by
  simp [State.subtractFrom, hd, State.setA, State.setP]

theorem State.addTo_of_decimal {s : State} (hd : s.p.d = true) (m : Byte) (cin : Bool) :
    s.addTo m cin =
      { s with
        a := (addDec s.a m cin s.bus.draws).r, p := s.p.setAlu (addDec s.a m cin s.bus.draws)
        bus := (s.addTo m cin).bus } := by
  simp [State.addTo, hd, State.setA, State.setP, State.tick, State.useDraws]

theorem State.subtractFrom_of_decimal {s : State} (hd : s.p.d = true) (m : Byte) (cin : Bool) :
    s.subtractFrom m cin =
      { s with
        a := (subDec s.a m cin s.bus.draws).r, p := s.p.setAlu (subDec s.a m cin s.bus.draws)
        bus := (s.subtractFrom m cin).bus } := by
  simp [State.subtractFrom, hd, State.setA, State.setP, State.tick, State.useDraws]

/-- In `s` the form adds its operand byte to A with this carry in. -/
structure ReadForm.Adds (f : ReadForm) (s : State) (cin : Bool) : Prop where
  encoded : IsEncoded f.op f.instr (operandLength f.operand)
  exec_eq : exec f.instr s = .next (s.withOperand f.operand fun u m => u.addTo m cin)

/-- In `s` the form subtracts its operand byte from A with this carry in. -/
structure ReadForm.Subtracts (f : ReadForm) (s : State) (cin : Bool) : Prop where
  encoded : IsEncoded f.op f.instr (operandLength f.operand)
  exec_eq : exec f.instr s = .next (s.withOperand f.operand fun u m => u.subtractFrom m cin)

theorem runsAs_of_mem_adcForms {n : Byte} {nn : Word} {f : ReadForm} (hf : f ∈ adcForms n nn) :
    f.RunsAs adcA := by
  fin_cases hf <;> exact ⟨⟨rfl, rfl⟩, fun _ => rfl⟩

theorem runsAs_of_mem_addForms {n : Byte} {nn : Word} {f : ReadForm} (hf : f ∈ addForms n nn) :
    f.RunsAs addA := by
  fin_cases hf <;> exact ⟨⟨rfl, rfl⟩, fun _ => rfl⟩

theorem runsAs_of_mem_sbcForms {n : Byte} {nn : Word} {f : ReadForm} (hf : f ∈ sbcForms n nn) :
    f.RunsAs sbcA := by
  fin_cases hf <;> exact ⟨⟨rfl, rfl⟩, fun _ => rfl⟩

/-- Reading the operand leaves C, so the carry in is the C from before (R162). -/
theorem adds_of_mem_adcForms {n : Byte} {nn : Word} {f : ReadForm} (hf : f ∈ adcForms n nn)
    (s : State) : f.Adds s s.p.c := by
  have hrun := runsAs_of_mem_adcForms hf
  refine ⟨hrun.encoded, ?_⟩
  rw [hrun.exec_eq, State.withOperand_eq, State.withOperand_eq]
  rfl

theorem adds_of_mem_addForms {n : Byte} {nn : Word} {f : ReadForm} (hf : f ∈ addForms n nn)
    (s : State) : f.Adds s false :=
  ⟨(runsAs_of_mem_addForms hf).encoded, (runsAs_of_mem_addForms hf).exec_eq s⟩

theorem subtracts_of_mem_sbcForms {n : Byte} {nn : Word} {f : ReadForm}
    (hf : f ∈ sbcForms n nn) (s : State) : f.Subtracts s s.p.c := by
  have hrun := runsAs_of_mem_sbcForms hf
  refine ⟨hrun.encoded, ?_⟩
  rw [hrun.exec_eq, State.withOperand_eq, State.withOperand_eq]
  rfl

/-- ADC adds with the carry C, ADD with the carry 0 (R162, R163). -/
theorem exists_adds {n : Byte} {nn : Word} {f : ReadForm} {s : State} {carry : Nat}
    (h : (f ∈ adcForms n nn ∧ carry = if s.p.c = true then 1 else 0) ∨
      (f ∈ addForms n nn ∧ carry = 0)) :
    ∃ cin : Bool, carry = bit01 cin ∧ f.Adds s cin := by
  obtain ⟨hf, hcarry⟩ | ⟨hf, hcarry⟩ := h
  case inl => exact ⟨s.p.c, hcarry, adds_of_mem_adcForms hf s⟩
  case inr => exact ⟨false, hcarry, adds_of_mem_addForms hf s⟩

section
variable {f : ReadForm} {s : State}

/-- What the operand byte is used for is known in `s`, but for the record of the bus (R119). -/
theorem ReadForm.yields_of_exec {g : State → Byte → State} {r : AluResult} {b : Bus}
    (hexec : exec f.instr s = .next (s.withOperand f.operand g))
    (hg : g { s with bus := (s.operand f.operand).2.bus } (s.operand f.operand).1 =
      { s with a := r.r, p := s.p.setAlu r, bus := b }) :
    f.Yields s r := by
  refine ⟨b, ?_⟩
  rw [hexec, State.withOperand_eq, hg]
  rfl

variable {cin : Bool}

theorem ReadForm.Adds.yields_addBin (h : f.Adds s cin) (hd : s.p.d = false) :
    f.Yields s (addBin s.a (s.operand f.operand).1 cin) :=
  ReadForm.yields_of_exec h.exec_eq
    (State.addTo_of_binary (s := { s with bus := (s.operand f.operand).2.bus }) hd _ _)

theorem ReadForm.Subtracts.yields_subBin (h : f.Subtracts s cin) (hd : s.p.d = false) :
    f.Yields s (subBin s.a (s.operand f.operand).1 cin) :=
  ReadForm.yields_of_exec h.exec_eq
    (State.subtractFrom_of_binary (s := { s with bus := (s.operand f.operand).2.bus }) hd _ _)

theorem ReadForm.Adds.yields_addDec (h : f.Adds s cin) (hd : s.p.d = true) :
    f.Yields s (addDec s.a (s.operand f.operand).1 cin (s.operand f.operand).2.bus.draws) :=
  ReadForm.yields_of_exec h.exec_eq
    (State.addTo_of_decimal (s := { s with bus := (s.operand f.operand).2.bus }) hd _ _)

theorem ReadForm.Subtracts.yields_subDec (h : f.Subtracts s cin) (hd : s.p.d = true) :
    f.Yields s (subDec s.a (s.operand f.operand).1 cin (s.operand f.operand).2.bus.draws) :=
  ReadForm.yields_of_exec h.exec_eq
    (State.subtractFrom_of_decimal (s := { s with bus := (s.operand f.operand).2.bus }) hd _ _)

end

/-! ### The obligations -/

/-- Settles O20: the form yields the binary sum, whose byte, C and V are known as arithmetic. -/
theorem addBinaryResults : Obligations.AddBinaryResults := by
  intro s n nn hd f carry hf
  obtain ⟨cin, rfl, hadds⟩ := exists_adds hf
  obtain ⟨b, hexec⟩ := hadds.yields_addBin hd
  exact ⟨hadds.encoded, _, hexec, rfl, addBin_toNat _ _ _, addBin_c _ _ _, addBin_v _ _ _⟩

/-- The borrow of SBC is the complement of C (R164). -/
theorem borrow_eq (c : Bool) : (if c = true then (0 : Int) else 1) = 1 - bit01 c := by
  cases c <;> rfl

/-- Settles O21, as O20, with the borrow 1 - C. -/
theorem subtractBinaryResults : Obligations.SubtractBinaryResults := by
  intro s n nn hd f hf borrow hborrow
  rw [borrow_eq] at hborrow
  subst hborrow
  have hsub := subtracts_of_mem_sbcForms hf s
  obtain ⟨b, hexec⟩ := hsub.yields_subBin hd
  exact ⟨hsub.encoded, _, hexec, rfl, subBin_toNat _ _ _, subBin_c _ _ _, subBin_v _ _ _⟩

/-- Settles O22: on packed BCD the result is that of the number modulo 100, which `dec` reads
back. -/
theorem decimalResults : Obligations.DecimalResults := by
  intro s n nn f hd ha hm carry hcarry
  refine ⟨fun cin hf => ?add, fun hf => ?subtract⟩
  case add =>
    subst hcarry
    obtain ⟨c, rfl, hadds⟩ := exists_adds hf
    obtain ⟨b, hexec⟩ := hadds.yields_addDec hd
    rw [addDec_of_bcd ha hm] at hexec
    have hlt : (dec s.a + dec (s.operand f.operand).1 + bit01 c) % 100 < 100 :=
      Nat.mod_lt _ (by decide)
    exact ⟨_, hexec, rfl, isBcd_bcd hlt, dec_bcd hlt, decide_eq_true_iff⟩
  case subtract =>
    have hbit : carry = bit01 s.p.c := hcarry
    subst hbit
    obtain ⟨b, hexec⟩ := (subtracts_of_mem_sbcForms hf s).yields_subDec hd
    rw [subDec_of_bcd ha hm] at hexec
    have hlt : (((dec s.a : Int) - dec (s.operand f.operand).1 - (1 - bit01 s.p.c)) % 100).toNat
        < 100 := by omega
    refine ⟨_, hexec, rfl, isBcd_bcd hlt, ?_, decide_eq_true_iff⟩
    exact (congrArg Nat.cast (dec_bcd hlt)).trans (Int.toNat_of_nonneg (by omega))

/-- What is open in decimal mode on other operands, and that V is not. -/
theorem ReadForm.Yields.decimalAny_frame {f : ReadForm} {s : State} {k : Nat}
    (h : f.Yields s (decimalAny k)) :
    ∃ t : State, exec f.instr s = .next t ∧
      t = { s with
        a := t.a
        p := { s.p with n := t.p.n, v := false, z := t.p.z, c := t.p.c }
        pc := s.pc + BitVec.ofNat 16 (operandLength f.operand)
        bus := t.bus } := by
  obtain ⟨b, hexec⟩ := h
  exact ⟨_, hexec, rfl⟩

/-- Settles O23, by the three mnemonics: each of them yields free values. -/
theorem decimalOnInvalidOperands : Obligations.DecimalOnInvalidOperands := by
  intro s n nn hd f hf hnot
  rw [List.mem_append, List.mem_append] at hf
  obtain (hadc | hadd) | hsbc := hf
  case inl.inl =>
    have hyields := (adds_of_mem_adcForms hadc s).yields_addDec hd
    rw [addDec_of_not_bcd hnot] at hyields
    exact hyields.decimalAny_frame
  case inl.inr =>
    have hyields := (adds_of_mem_addForms hadd s).yields_addDec hd
    rw [addDec_of_not_bcd hnot] at hyields
    exact hyields.decimalAny_frame
  case inr =>
    have hyields := (subtracts_of_mem_sbcForms hsbc s).yields_subDec hd
    rw [subDec_of_not_bcd hnot] at hyields
    exact hyields.decimalAny_frame

end Sys2Proof.Machine
end

section
/-! Logic, BIT, compares, increments and decrements, NEG and LAB (spec/42_arithmetic_logic.md R167
to R182): O24 to O27. -/

namespace Sys2Proof.Machine

/-! ### AND, ORA and EOR -/

theorem bitOf_and (u v : Byte) (b : Fin 8) : bitOf (u &&& v) b = (bitOf u b && bitOf v b) :=
  BitVec.getLsbD_and

theorem bitOf_xor (u v : Byte) (b : Fin 8) : bitOf (u ^^^ v) b = (bitOf u b ^^ bitOf v b) :=
  BitVec.getLsbD_xor

theorem runsAs_of_mem_andForms {n : Byte} {nn : Word} {f : ReadForm} (hf : f ∈ andForms n nn) :
    f.RunsAs fun u m => u.loadA (u.a &&& m) := by
  fin_cases hf <;> exact ⟨⟨rfl, rfl⟩, fun _ => rfl⟩

theorem runsAs_of_mem_oraForms {n : Byte} {nn : Word} {f : ReadForm} (hf : f ∈ oraForms n nn) :
    f.RunsAs fun u m => u.loadA (u.a ||| m) := by
  fin_cases hf <;> exact ⟨⟨rfl, rfl⟩, fun _ => rfl⟩

theorem runsAs_of_mem_eorForms {n : Byte} {nn : Word} {f : ReadForm} (hf : f ∈ eorForms n nn) :
    f.RunsAs fun u m => u.loadA (u.a ^^^ m) := by
  fin_cases hf <;> exact ⟨⟨rfl, rfl⟩, fun _ => rfl⟩

/-- Each of the three loads A with a function of A and the operand byte that works bit by bit. -/
theorem exists_bitwise {n : Byte} {nn : Word} {f : ReadForm} {op : Bool → Bool → Bool}
    (h : (f ∈ andForms n nn ∧ op = and) ∨ (f ∈ oraForms n nn ∧ op = or) ∨
      (f ∈ eorForms n nn ∧ op = xor)) :
    ∃ g : Byte → Byte → Byte, f.RunsAs (fun u m => u.loadA (g u.a m)) ∧
      ∀ u v b, bitOf (g u v) b = op (bitOf u b) (bitOf v b) := by
  obtain ⟨hf, rfl⟩ | ⟨hf, rfl⟩ | ⟨hf, rfl⟩ := h
  case inl => exact ⟨_, runsAs_of_mem_andForms hf, bitOf_and⟩
  case inr.inl => exact ⟨_, runsAs_of_mem_oraForms hf, bitOf_or⟩
  case inr.inr => exact ⟨_, runsAs_of_mem_eorForms hf, bitOf_xor⟩

/-- Settles O24: the form loads A, and the loaded byte is known bit by bit. -/
theorem logicResults : Obligations.LogicResults := by
  intro s n nn f op hf
  obtain ⟨g, hrun, hbits⟩ := exists_bitwise hf
  refine ⟨hrun.encoded, _, hrun.exec_eq s, ?_⟩
  rw [State.withOperand_eq]
  exact ⟨rfl, hbits s.a (s.operand f.operand).1⟩

/-! ### BIT and the compares -/

theorem bitOf_seven (v : Byte) : bitOf v 7 = v.msb := (BitVec.msb_eq_getLsbD_last v).symm

/-- N of BIT is bit 7 of the operand byte, V its bit 6 (R170). -/
theorem Status.bitTest_eq (p : Status) (a m : Byte) :
    p.bitTest a m = { p with n := bitOf m 7, v := bitOf m 6, z := decide (a &&& m = 0) } := by
  rw [bitOf_seven]
  rfl

theorem sub_msb_eq (r m : Byte) :
    (r - m).msb = decide (((r.toNat : Int) - m.toNat) % 256 ≥ 128) := by
  rw [BitVec.msb_eq_decide, BitVec.toNat_sub, decide_eq_decide]
  omega

/-- N of a compare is bit 7 of the difference modulo 256 (R171). -/
theorem Status.compare_eq (p : Status) (r m : Byte) :
    p.compare r m =
      { p with
        n := decide (((r.toNat : Int) - m.toNat) % 256 ≥ 128), z := decide (r = m)
        c := decide (r.toNat ≥ m.toNat) } := by
  rw [← sub_msb_eq]
  rfl

theorem runsAs_of_mem_bitForms {n : Byte} {nn : Word} {f : ReadForm} (hf : f ∈ bitForms n nn) :
    f.RunsAs bitA := by
  fin_cases hf <;> exact ⟨⟨rfl, rfl⟩, fun _ => rfl⟩

theorem runsAs_of_mem_cmpForms {n : Byte} {nn : Word} {f : ReadForm} (hf : f ∈ cmpForms n nn) :
    f.RunsAs fun u m => u.setP (u.p.compare u.a m) := by
  fin_cases hf <;> exact ⟨⟨rfl, rfl⟩, fun _ => rfl⟩

theorem runsAs_of_mem_cpxForms {n : Byte} {nn : Word} {f : ReadForm} (hf : f ∈ cpxForms n nn) :
    f.RunsAs fun u m => u.setP (u.p.compare u.x m) := by
  fin_cases hf <;> exact ⟨⟨rfl, rfl⟩, fun _ => rfl⟩

theorem runsAs_of_mem_cpyForms {n : Byte} {nn : Word} {f : ReadForm} (hf : f ∈ cpyForms n nn) :
    f.RunsAs fun u m => u.setP (u.p.compare u.y m) := by
  fin_cases hf <;> exact ⟨⟨rfl, rfl⟩, fun _ => rfl⟩

/-- Flags made from the registers and the operand byte: reading the operand leaves the registers,
so only P, PC and the record of the bus change. -/
theorem State.withOperand_setP_eq (s : State) (o : Operand) (g : State → Byte → Status)
    {p : Status}
    (hp : g { s with bus := (s.operand o).2.bus } (s.operand o).1 = p) :
    s.withOperand o (fun u m => u.setP (g u m)) =
      { s with
        p := p, pc := s.pc + BitVec.ofNat 16 (operandLength o), bus := (s.operand o).2.bus } := by
  rw [State.withOperand_eq, hp]
  rfl

/-- CMP, CPX and CPY compare A, X and Y (R172 to R174). -/
theorem exists_compared {n : Byte} {nn : Word} {f : ReadForm} {s : State} {r : Byte}
    (h : (f ∈ cmpForms n nn ∧ r = s.a) ∨ (f ∈ cpxForms n nn ∧ r = s.x) ∨
      (f ∈ cpyForms n nn ∧ r = s.y)) :
    ∃ reg : State → Byte, f.RunsAs (fun u m => u.setP (u.p.compare (reg u) m)) ∧
      ∀ b : Bus, reg { s with bus := b } = r := by
  obtain ⟨hf, rfl⟩ | ⟨hf, rfl⟩ | ⟨hf, rfl⟩ := h
  case inl => exact ⟨State.a, runsAs_of_mem_cmpForms hf, fun _ => rfl⟩
  case inr.inl => exact ⟨State.x, runsAs_of_mem_cpxForms hf, fun _ => rfl⟩
  case inr.inr => exact ⟨State.y, runsAs_of_mem_cpyForms hf, fun _ => rfl⟩

/-- Settles O25: BIT and the compares set P alone, from the register and the operand byte. -/
theorem bitTestAndCompareResults : Obligations.BitTestAndCompareResults := by
  intro s n nn
  refine ⟨fun f hf => ?bit, fun f r hf => ?compare⟩
  case bit =>
    have hrun := runsAs_of_mem_bitForms hf
    exact ⟨hrun.encoded, _, hrun.exec_eq s,
      s.withOperand_setP_eq f.operand (fun u m => u.p.bitTest u.a m) (Status.bitTest_eq _ _ _)⟩
  case compare =>
    obtain ⟨reg, hrun, hreg⟩ := exists_compared hf
    refine ⟨hrun.encoded, _, hrun.exec_eq s, ?_⟩
    rw [s.withOperand_setP_eq f.operand (fun u m => u.p.compare (reg u) m)
      (Status.compare_eq _ _ _), hreg]

/-! ### INC and DEC -/

/-- The form is the instruction of its op code, as long as its mode asks for, and its execution
changes the byte in memory by `g`. -/
structure MemForm.Modifies (f : MemForm) (g : Byte → Status → Byte × Status) : Prop where
  encoded : IsEncoded f.op f.instr (modeLength f.mode)
  exec_eq : ∀ s : State, exec f.instr s = .next (s.modify f.mode g)

theorem modifies_of_mem_incForms {n : Byte} {nn : Word} {f : MemForm} (hf : f ∈ incForms n nn) :
    f.Modifies incByte := by
  fin_cases hf <;> exact ⟨⟨rfl, rfl⟩, fun _ => rfl⟩

theorem modifies_of_mem_decForms {n : Byte} {nn : Word} {f : MemForm} (hf : f ∈ decForms n nn) :
    f.Modifies decByte := by
  fin_cases hf <;> exact ⟨⟨rfl, rfl⟩, fun _ => rfl⟩

/-- The byte that a read/modify/write reads at its effective address (R50). -/
def State.modified (s : State) (m : Mode) : Byte :=
  (s.resolve .write m).2.peek (s.resolve .write m).1

theorem State.modified_of_stored {s : State} {m : Mode} (h : s.Stored (s.resolve .write m).1) :
    s.modified m = s.byteAt (s.resolve .write m).1 :=
  State.peek_after_resolve h

/-- A read/modify/write changes memory, P and PC, and of memory the byte at the effective
address (R50). -/
theorem State.modify_result (s : State) (m : Mode) (g : Byte → Status → Byte × Status) :
    s.modify m g =
        { s with
          mem := (s.modify m g).mem, p := (g (s.modified m) s.p).2
          pc := s.pc + BitVec.ofNat 16 (modeLength m), bus := (s.modify m g).bus } ∧
      StoresBytes s (s.modify m g) [((s.resolve .write m).1, (g (s.modified m) s.p).1)] := by
  refine ⟨?_, storesBytes_of_one_write (s.modify_writes m g)⟩
  rw [State.modify_mem]
  exact s.modify_eq m g

theorem Byte.add_one_toNat (b : Byte) : (b + 1).toNat = (b.toNat + 1) % 256 :=
  BitVec.toNat_add b 1

theorem Byte.sub_one_toNat (b : Byte) : (b - 1).toNat = (b.toNat + 255) % 256 := by
  rw [BitVec.toNat_sub, Nat.add_comm]
  rfl

/-- What INC and DEC have in common: the byte takes `d` more modulo 256, N and Z describe it. -/
structure Steps (g : Byte → Status → Byte × Status) (d : Int) : Prop where
  byte_toNat : ∀ v p, ((g v p).1.toNat : Int) = (v.toNat + d) % 256
  status_eq : ∀ v p, (g v p).2 = p.setNZ (g v p).1

theorem incByte_steps : Steps incByte 1 where
  byte_toNat v _ := congrArg Nat.cast (Byte.add_one_toNat v)
  status_eq _ _ := rfl

theorem decByte_steps : Steps decByte (-1) where
  byte_toNat v p := by
    have hbyte : (decByte v p).1.toNat = (v.toNat + 255) % 256 := Byte.sub_one_toNat v
    omega
  status_eq _ _ := rfl

/-- Settles O26: a form of INC or DEC is a read/modify/write by a step of 1 or -1. -/
theorem incrementMemoryResults : Obligations.IncrementMemoryResults := by
  intro s n nn f d hf
  obtain ⟨g, hmodifies, hsteps⟩ : ∃ g, f.Modifies g ∧ Steps g d := by
    obtain ⟨hinc, rfl⟩ | ⟨hdec, rfl⟩ := hf
    · exact ⟨incByte, modifies_of_mem_incForms hinc, incByte_steps⟩
    · exact ⟨decByte, modifies_of_mem_decForms hdec, decByte_steps⟩
  obtain ⟨hframe, hstores⟩ := s.modify_result f.mode g
  rw [hsteps.status_eq] at hframe
  exact ⟨hmodifies.encoded, _, _, _, hmodifies.exec_eq s, State.modified_of_stored,
    hsteps.byte_toNat _ _, hframe, hstores⟩

/-! ### INX, INY, DEX, DEY, NEG and LAB -/

theorem negByte_fst (v : Byte) (p : Status) : (negByte v p).1 = BitVec.ofInt 8 (-v.toInt) := by
  rw [BitVec.ofInt_neg, BitVec.ofInt_toInt]
  exact BitVec.zero_sub v

theorem Byte.zero_sub_toNat (v : Byte) : (0 - v).toNat = (256 - v.toNat) % 256 :=
  BitVec.toNat_sub 0 v

/-- 80 stays 80, the absolute value 128 read as a byte (R182). -/
theorem labByte_fst_toNat (v : Byte) (p : Status) : (labByte v p).1.toNat = v.toInt.natAbs := by
  have hint := BitVec.toInt_eq_msb_cond v
  have hlt := v.isLt
  cases hsign : v.msb
  case false =>
    simp only [labByte, hint, hsign, Bool.false_eq_true, if_false, Int.natAbs_natCast]
  case true =>
    have hle : 128 ≤ v.toNat := BitVec.le_toNat_of_msb_true hsign
    simp only [labByte, hint, hsign, if_true, Byte.zero_sub_toNat]
    omega

/-- A one-byte instruction takes its op code fetch and one ignored read (R100, R335). -/
theorem State.implied_cycles (s : State) : s.implied.bus.cycles = s.bus.cycles + 1 :=
  s.touch_cycles (s.pc + 1)

/-- An accumulator form changes A, P and PC. -/
theorem State.modifyA_eq (s : State) (f : Byte → Status → Byte × Status) :
    s.modifyA f =
      { s with
        a := (f s.a s.p).1, p := (f s.a s.p).2, pc := s.pc + 1
        bus := (s.modifyA f).bus } := rfl

/-- Settles O27: four loads of a stepped index register, two accumulator forms, LAB with one more
ignored read. -/
theorem registerArithmeticResults : Obligations.RegisterArithmeticResults := by
  intro s
  have hcycles : s.implied.bus.cycles + 1 = s.bus.cycles + 2 := by rw [s.implied_cycles]
  refine ⟨?inx, ?iny, ?dex, ?dey, ?negA, ?labA⟩
  case inx =>
    exact ⟨⟨rfl, rfl⟩, _, rfl, s.implied_loadX_eq _, Byte.add_one_toNat s.x, hcycles⟩
  case iny =>
    exact ⟨⟨rfl, rfl⟩, _, rfl, s.implied_loadY_eq _, Byte.add_one_toNat s.y, hcycles⟩
  case dex =>
    exact ⟨⟨rfl, rfl⟩, _, rfl, s.implied_loadX_eq _, Byte.sub_one_toNat s.x, hcycles⟩
  case dey =>
    exact ⟨⟨rfl, rfl⟩, _, rfl, s.implied_loadY_eq _, Byte.sub_one_toNat s.y, hcycles⟩
  case negA =>
    exact ⟨⟨rfl, rfl⟩, _, rfl, s.modifyA_eq negByte, negByte_fst s.a s.p, hcycles⟩
  case labA =>
    have hmore := (s.touch (s.pc + 1)).implied_cycles
    rw [State.touch_cycles] at hmore
    exact ⟨⟨rfl, rfl⟩, _, rfl, (s.touch (s.pc + 1)).modifyA_eq labByte,
      labByte_fst_toNat s.a s.p, congrArg (· + 1) hmore⟩

end Sys2Proof.Machine
end

section
/-! Shifts and rotations, multiplication and W (spec/43_shift_multiply_w.md R190 to R200): O28 to
O33. -/

namespace Sys2Proof.Machine

/-! ### The bits at the two ends of a byte -/

/-- The bit that leaves on the left (R190, R192). -/
theorem Byte.msb_eq_decide_div (v : Byte) : v.msb = decide (v.toNat / 128 = 1) := by
  have hlt := v.isLt
  rw [BitVec.msb_eq_decide, decide_eq_decide]
  omega

/-- The bit that leaves on the right (R191, R193, R194). -/
theorem Byte.getLsbD_zero_eq_decide_mod (v : Byte) :
    v.getLsbD 0 = decide (v.toNat % 2 = 1) :=
  Nat.testBit_zero v.toNat

theorem Byte.shiftLeft_one_toNat (v : Byte) : (v <<< 1).toNat = 2 * v.toNat % 256 := by
  rw [BitVec.toNat_shiftLeft, Nat.shiftLeft_eq, Nat.mul_comm]

theorem Byte.shiftRight_one_toNat (v : Byte) : (v >>> 1).toNat = v.toNat / 2 :=
  BitVec.toNat_ushiftRight v 1

theorem flagBit_toNat_zero (c : Bool) : (flagBit c 0).toNat = if c = true then 1 else 0 := by
  cases c <;> rfl

theorem flagBit_toNat_seven (c : Bool) : (flagBit c 7).toNat = if c = true then 128 else 0 := by
  cases c <;> rfl

theorem flagBit_getLsbD (c : Bool) (j : Nat) {k : Nat} (hk : k < 8) :
    (flagBit c j).getLsbD k = (c && decide (k = j)) :=
  bitOf_flagBit c j ⟨k, hk⟩

/-- Bytes without a common bit are put together by addition. -/
theorem Byte.or_toNat_of_disjoint {u v : Byte} (h : u &&& v = 0) :
    (u ||| v).toNat = u.toNat + v.toNat := by
  rw [← BitVec.add_eq_or_of_and_eq_zero u v h, BitVec.toNat_add_of_and_eq_zero h]

/-- A shift to the left frees bit 0. -/
theorem Byte.shiftLeft_one_and_flagBit (v : Byte) (c : Bool) : v <<< 1 &&& flagBit c 0 = 0 := by
  apply BitVec.eq_of_getLsbD_eq
  intro k hk
  rw [BitVec.getLsbD_and, flagBit_getLsbD c 0 hk, BitVec.getLsbD_shiftLeft]
  cases k <;> simp

/-- A shift to the right frees bit 7. -/
theorem Byte.shiftRight_one_and_flagBit (v : Byte) (c : Bool) : v >>> 1 &&& flagBit c 7 = 0 := by
  apply BitVec.eq_of_getLsbD_eq
  intro k hk
  rw [BitVec.getLsbD_and, flagBit_getLsbD c 7 hk, BitVec.getLsbD_ushiftRight]
  by_cases hseven : k = 7
  · subst hseven
    simp
  · simp [hseven]

theorem Byte.rotateLeft_toNat (v : Byte) (c : Bool) :
    (v <<< 1 ||| flagBit c 0).toNat = 2 * v.toNat % 256 + if c = true then 1 else 0 := by
  rw [Byte.or_toNat_of_disjoint (Byte.shiftLeft_one_and_flagBit v c), Byte.shiftLeft_one_toNat,
    flagBit_toNat_zero]

theorem Byte.rotateRight_toNat (v : Byte) (c : Bool) :
    (v >>> 1 ||| flagBit c 7).toNat = v.toNat / 2 + if c = true then 128 else 0 := by
  rw [Byte.or_toNat_of_disjoint (Byte.shiftRight_one_and_flagBit v c), Byte.shiftRight_one_toNat,
    flagBit_toNat_seven]

/-- Keeping bit 7 is filling it with a copy of itself (R194). -/
theorem Byte.and_0x80_eq_flagBit_msb (v : Byte) : v &&& 0x80 = flagBit v.msb 7 := by
  have hmask : (0x80 : Byte) = flagBit true 7 := rfl
  apply BitVec.eq_of_getLsbD_eq
  intro k hk
  rw [hmask, BitVec.getLsbD_and, flagBit_getLsbD true 7 hk, flagBit_getLsbD v.msb 7 hk]
  by_cases hseven : k = 7
  · subst hseven
    simp [BitVec.msb_eq_getLsbD_last]
  · simp [hseven]

/-! ### What each shift makes of a byte -/

/-- With the flags `p`, `g` makes the number `result` of the byte `v`, and `out` is the bit that
leaves it. -/
structure ShiftsTo (g : Byte → Status → Byte × Status) (v : Byte) (p : Status)
    (result out : Nat) : Prop where
  byte_toNat : (g v p).1.toNat = result
  eq_shifted : g v p = shifted (g v p).1 (decide (out = 1)) p

/-- The flags after a shift (R190 to R194). -/
theorem ShiftsTo.status_eq {g : Byte → Status → Byte × Status} {v : Byte} {p : Status}
    {result out : Nat} (h : ShiftsTo g v p result out) :
    (g v p).2 =
      { p with
        n := (g v p).1.msb, z := decide ((g v p).1 = 0), c := decide (out = 1) } :=
  congrArg Prod.snd h.eq_shifted

theorem aslByte_shiftsTo (v : Byte) (p : Status) :
    ShiftsTo aslByte v p (2 * v.toNat % 256) (v.toNat / 128) where
  byte_toNat := Byte.shiftLeft_one_toNat v
  eq_shifted := congrArg (shifted _ · p) (Byte.msb_eq_decide_div v)

theorem lsrByte_shiftsTo (v : Byte) (p : Status) :
    ShiftsTo lsrByte v p (v.toNat / 2) (v.toNat % 2) where
  byte_toNat := Byte.shiftRight_one_toNat v
  eq_shifted := congrArg (shifted _ · p) (Byte.getLsbD_zero_eq_decide_mod v)

theorem rolByte_shiftsTo (v : Byte) (p : Status) :
    ShiftsTo rolByte v p (2 * v.toNat % 256 + if p.c = true then 1 else 0) (v.toNat / 128) where
  byte_toNat := Byte.rotateLeft_toNat v p.c
  eq_shifted := congrArg (shifted _ · p) (Byte.msb_eq_decide_div v)

theorem rorByte_shiftsTo (v : Byte) (p : Status) :
    ShiftsTo rorByte v p (v.toNat / 2 + if p.c = true then 128 else 0) (v.toNat % 2) where
  byte_toNat := Byte.rotateRight_toNat v p.c
  eq_shifted := congrArg (shifted _ · p) (Byte.getLsbD_zero_eq_decide_mod v)

/-- ASR rotates bit 7 in again, and so halves the signed number, rounding down (R194). -/
theorem asrByte_fst_toNat (v : Byte) (p : Status) :
    (asrByte v p).1.toNat = (BitVec.ofInt 8 (v.toInt / 2)).toNat := by
  have hbyte : (asrByte v p).1 = v >>> 1 ||| flagBit v.msb 7 :=
    congrArg (v >>> 1 ||| ·) (Byte.and_0x80_eq_flagBit_msb v)
  have hlt := v.isLt
  rw [hbyte, Byte.rotateRight_toNat, BitVec.toNat_ofInt, Byte.toInt_eq]
  simp only [BitVec.msb_eq_decide, decide_eq_true_eq]
  split <;> omega

theorem asrByte_shiftsTo (v : Byte) (p : Status) :
    ShiftsTo asrByte v p (BitVec.ofInt 8 (v.toInt / 2)).toNat (v.toNat % 2) where
  byte_toNat := asrByte_fst_toNat v p
  eq_shifted := congrArg (shifted _ · p) (Byte.getLsbD_zero_eq_decide_mod v)

/-! ### Shifts of a byte in memory -/

theorem modifies_of_mem_aslForms {n : Byte} {nn : Word} {f : MemForm} (hf : f ∈ aslForms n nn) :
    f.Modifies aslByte := by
  fin_cases hf <;> exact ⟨⟨rfl, rfl⟩, fun _ => rfl⟩

theorem modifies_of_mem_lsrForms {n : Byte} {nn : Word} {f : MemForm} (hf : f ∈ lsrForms n nn) :
    f.Modifies lsrByte := by
  fin_cases hf <;> exact ⟨⟨rfl, rfl⟩, fun _ => rfl⟩

theorem modifies_of_mem_rolForms {n : Byte} {nn : Word} {f : MemForm} (hf : f ∈ rolForms n nn) :
    f.Modifies rolByte := by
  fin_cases hf <;> exact ⟨⟨rfl, rfl⟩, fun _ => rfl⟩

theorem modifies_of_mem_rorForms {n : Byte} {nn : Word} {f : MemForm} (hf : f ∈ rorForms n nn) :
    f.Modifies rorByte := by
  fin_cases hf <;> exact ⟨⟨rfl, rfl⟩, fun _ => rfl⟩

/-- Settles O28: each form is a read/modify/write by a shift whose byte and flags are known. -/
theorem shiftMemoryResults : Obligations.ShiftMemoryResults := by
  intro s n nn f shift out hf
  obtain ⟨g, hmodifies, hshifts⟩ :
      ∃ g, f.Modifies g ∧ ∀ v : Byte, ShiftsTo g v s.p (shift v.toNat) (out v.toNat) := by
    obtain ⟨hasl, rfl, rfl⟩ | ⟨hlsr, rfl, rfl⟩ | ⟨hrol, rfl, rfl⟩ | ⟨hror, rfl, rfl⟩ := hf
    · exact ⟨aslByte, modifies_of_mem_aslForms hasl, fun v => aslByte_shiftsTo v s.p⟩
    · exact ⟨lsrByte, modifies_of_mem_lsrForms hlsr, fun v => lsrByte_shiftsTo v s.p⟩
    · exact ⟨rolByte, modifies_of_mem_rolForms hrol, fun v => rolByte_shiftsTo v s.p⟩
    · exact ⟨rorByte, modifies_of_mem_rorForms hror, fun v => rorByte_shiftsTo v s.p⟩
  obtain ⟨hframe, hstores⟩ := s.modify_result f.mode g
  have hshift := hshifts (s.modified f.mode)
  rw [hshift.status_eq] at hframe
  exact ⟨hmodifies.encoded, _, _, _, hmodifies.exec_eq s, State.modified_of_stored,
    hshift.byte_toNat, hframe, hstores⟩

/-! ### Shifts of the accumulator -/

/-- Settles O29: each form is an accumulator form by a shift whose byte and flags are known. -/
theorem shiftAccumulatorResults : Obligations.ShiftAccumulatorResults := by
  intro s op i result out hf
  obtain ⟨g, hencoded, hexec, hshift⟩ :
      ∃ g, IsEncoded op i 1 ∧ exec i s = .next (s.modifyA g) ∧
        ShiftsTo g s.a s.p result out := by
    obtain ⟨rfl, rfl, rfl, rfl⟩ | ⟨rfl, rfl, rfl, rfl⟩ | ⟨rfl, rfl, rfl, rfl⟩ |
      ⟨rfl, rfl, rfl, rfl⟩ | ⟨rfl, rfl, rfl, rfl⟩ := hf
    · exact ⟨aslByte, ⟨rfl, rfl⟩, rfl, aslByte_shiftsTo s.a s.p⟩
    · exact ⟨lsrByte, ⟨rfl, rfl⟩, rfl, lsrByte_shiftsTo s.a s.p⟩
    · exact ⟨rolByte, ⟨rfl, rfl⟩, rfl, rolByte_shiftsTo s.a s.p⟩
    · exact ⟨rorByte, ⟨rfl, rfl⟩, rfl, rorByte_shiftsTo s.a s.p⟩
    · exact ⟨asrByte, ⟨rfl, rfl⟩, rfl, asrByte_shiftsTo s.a s.p⟩
  have hframe := s.modifyA_eq g
  rw [hshift.status_eq] at hframe
  exact ⟨hencoded, _, hexec, hframe, hshift.byte_toNat⟩

/-! ### MPY -/

/-- The product of two signed bytes fits into 16 bits (R195). -/
theorem mpyWord_toInt (a y : Byte) : (mpyWord a y).toInt = a.toInt * y.toInt := by
  have hle : a.toInt * y.toInt ≤ 16384 := BitVec.toInt_mul_toInt_le
  have hge : -16384 ≤ a.toInt * y.toInt := BitVec.le_toInt_mul_toInt
  exact BitVec.toInt_ofInt_eq_self (by decide) (by omega) (by omega)

/-- MPY and MPA make five ignored reads (R48). -/
theorem State.impliedMultiply_cycles (s : State) :
    s.impliedMultiply.bus.cycles = s.bus.cycles + 5 := by
  rw [State.impliedMultiply, State.advance_bus, State.touchTimes_cycles]

/-- The ignored reads of MPY and MPA change only the record of the bus, and PC steps on (R48). -/
theorem State.impliedMultiply_eq (s : State) :
    s.impliedMultiply = { s with pc := s.pc + 1, bus := s.impliedMultiply.bus } := by
  obtain ⟨b, hreads, -⟩ := State.touchTimes_only_bus 5 s (s.pc + 1)
  rw [State.impliedMultiply, hreads]
  rfl

/-- MPY changes A, Y, N, V and PC (R195). -/
theorem State.multiply_eq (s : State) :
    s.multiply =
      { s with
        a := hiByte (mpyWord s.a s.y), y := loByte (mpyWord s.a s.y)
        p := { s.p with n := (hiByte (mpyWord s.a s.y)).msb, v := false }
        pc := s.pc + 1, bus := s.multiply.bus } := by
  unfold State.multiply
  rw [s.impliedMultiply_eq]
  rfl

/-- Settles O30: A and Y are the two bytes of a product that fits. -/
theorem multiplyResult : Obligations.MultiplyResult := by
  intro s
  have hproduct : (wordOf s.multiply.a s.multiply.y).toInt = s.a.toInt * s.y.toInt :=
    (congrArg BitVec.toInt (wordOf_hiByte_loByte (mpyWord s.a s.y))).trans (mpyWord_toInt s.a s.y)
  exact ⟨⟨rfl, rfl⟩, s.multiply, rfl, s.multiply_eq, hproduct,
    congrArg (· + 1) s.impliedMultiply_cycles⟩

/-! ### MPA -/

/-- The exact sum of MPA before it is held in 16 bits (R196). -/
def mpaSum (w : Word) (a y : Byte) : Int := w.toInt + a.toInt * y.toInt

theorem mpaWord_of_sum_high {w : Word} {a y : Byte} (h : mpaSum w a y > 32767) :
    mpaWord w a y = (0x7FFF, true) :=
  if_pos h

theorem mpaWord_of_sum_low {w : Word} {a y : Byte} (h : mpaSum w a y < -32768) :
    mpaWord w a y = (0x8000, true) :=
  (if_neg (show ¬ mpaSum w a y > 32767 by omega)).trans (if_pos h)

theorem mpaWord_of_sum_fits {w : Word} {a y : Byte} (hhigh : mpaSum w a y ≤ 32767)
    (hlow : -32768 ≤ mpaSum w a y) : mpaWord w a y = (BitVec.ofInt 16 (mpaSum w a y), false) :=
  (if_neg (not_lt.mpr hhigh)).trans (if_neg (not_lt.mpr hlow))

/-- The accumulation saturates at the ends of the signed 16-bit numbers and says so (R196). -/
theorem mpaWord_saturates (w : Word) (a y : Byte) :
    (mpaWord w a y).1.toInt = max (-32768) (min 32767 (mpaSum w a y)) ∧
      ((mpaWord w a y).2 = true ↔ mpaSum w a y > 32767 ∨ mpaSum w a y < -32768) := by
  by_cases hhigh : mpaSum w a y > 32767
  · have hword : (mpaWord w a y).1.toInt = 32767 := by
      rw [mpaWord_of_sum_high hhigh]
      rfl
    have hflag : (mpaWord w a y).2 = true := by rw [mpaWord_of_sum_high hhigh]
    exact ⟨by omega, iff_of_true hflag (.inl hhigh)⟩
  by_cases hlow : mpaSum w a y < -32768
  · have hword : (mpaWord w a y).1.toInt = -32768 := by
      rw [mpaWord_of_sum_low hlow]
      rfl
    have hflag : (mpaWord w a y).2 = true := by rw [mpaWord_of_sum_low hlow]
    exact ⟨by omega, iff_of_true hflag (.inr hlow)⟩
  · have hfits := mpaWord_of_sum_fits (not_lt.mp hhigh) (not_lt.mp hlow)
    have hword : (mpaWord w a y).1.toInt = mpaSum w a y := by
      rw [hfits]
      exact BitVec.toInt_ofInt_eq_self (by decide) (by omega) (by omega)
    have hflag : (mpaWord w a y).2 ≠ true := by simp [hfits]
    exact ⟨by omega, iff_of_false hflag (by omega)⟩

/-- MPA changes W, N, V and PC, and leaves Y open (R196, D17, D18). -/
theorem State.multiplyAccumulate_eq (s : State) :
    s.multiplyAccumulate =
      { s with
        y := s.multiplyAccumulate.y, w := (mpaWord s.w s.a s.y).1
        p := { s.p with n := (mpaWord s.w s.a s.y).1.msb, v := (mpaWord s.w s.a s.y).2 }
        pc := s.pc + 1, bus := s.multiplyAccumulate.bus } := by
  unfold State.multiplyAccumulate
  rw [s.impliedMultiply_eq]
  rfl

/-- Settles O31, by the frame of MPA and the saturation of its sum. -/
theorem multiplyAccumulateResult : Obligations.MultiplyAccumulateResult := fun s =>
  ⟨⟨rfl, rfl⟩, s.multiplyAccumulate, rfl, s.multiplyAccumulate_eq,
    mpaWord_saturates s.w s.a s.y⟩

/-! ### RND -/

/-- The high byte is the quotient by 256 (R3). -/
theorem hiByte_toNat (w : Word) : (hiByte w).toNat = w.toNat / 256 := by
  have hparts := wordOf_toNat (hiByte w) (loByte w)
  have hlo := (loByte w).isLt
  rw [wordOf_hiByte_loByte] at hparts
  omega

theorem Word.toInt_eq (w : Word) :
    w.toInt = if 32768 ≤ w.toNat then (w.toNat : Int) - 65536 else w.toNat := by
  simp [BitVec.toInt_eq_msb_cond, BitVec.msb_eq_decide]

/-- Bit 7 of W is the half of its high byte's unit (R197). -/
theorem Word.getLsbD_seven_eq_decide (w : Word) :
    w.getLsbD 7 = decide (w.toNat / 128 % 2 = 1) :=
  Nat.testBit_eq_decide_div_mod_eq

theorem rndOverflows_iff_toNat (w : Word) :
    rndOverflows w = true ↔ w.toNat / 256 = 127 ∧ w.toNat / 128 % 2 = 1 := by
  rw [rndOverflows, Word.getLsbD_seven_eq_decide, Bool.and_eq_true, decide_eq_true_iff,
    decide_eq_true_iff, ← BitVec.toNat_inj, hiByte_toNat]
  rfl

/-- The rounding overflows where the rounded quotient is no signed byte (R197). -/
theorem rndOverflows_iff (w : Word) :
    rndOverflows w = true ↔ (w.toInt + 128) / 256 > 127 := by
  have hlt := w.isLt
  rw [rndOverflows_iff_toNat, Word.toInt_eq]
  omega

/-- Without overflow A takes the high byte and the half below it (R197). -/
theorem rndByte_toNat_of_fits {w : Word} (h : rndOverflows w = false) :
    (rndByte w).toNat = (w.toNat + 128) / 256 % 256 := by
  have hbyte : rndByte w = hiByte w + flagBit (w.getLsbD 7) 0 := by simp [rndByte, h]
  rw [hbyte, BitVec.toNat_add, hiByte_toNat, flagBit_toNat_zero]
  simp only [Word.getLsbD_seven_eq_decide, decide_eq_true_eq]
  split <;> omega

theorem rndByte_toInt (w : Word) : (rndByte w).toInt = min 127 ((w.toInt + 128) / 256) := by
  have hover := rndOverflows_iff w
  have hlt := w.isLt
  cases hrnd : rndOverflows w
  case false =>
    have hbyte := rndByte_toNat_of_fits hrnd
    have hfits := mt hover.mpr (Bool.eq_false_iff.mp hrnd)
    rw [Word.toInt_eq] at hfits
    rw [Byte.toInt_eq, Word.toInt_eq, hbyte]
    omega
  case true =>
    have hbyte : rndByte w = 0x7F := by simp [rndByte, hrnd]
    have hint : (0x7F : Byte).toInt = 127 := by decide
    have hhigh := hover.mp hrnd
    rw [hbyte, hint]
    omega

/-- RND changes A, N, V and PC, and Y where it overflows (R197, D17). -/
theorem State.round_eq (s : State) :
    s.round =
      { s with
        a := rndByte s.w, y := s.round.y
        p := { s.p with n := (rndByte s.w).msb, v := rndOverflows s.w }
        pc := s.pc + 1, bus := s.round.bus } := by
  unfold State.round State.roundY
  split <;> rfl

theorem State.round_y_of_fits {s : State} (h : rndOverflows s.w = false) : s.round.y = s.y := by
  simp [State.round, State.roundY, h, State.implied]

/-- Settles O32, by the frame of RND, its byte and the bound where it overflows. -/
theorem roundResult : Obligations.RoundResult := fun s =>
  ⟨⟨rfl, rfl⟩, s.round, rfl, s.round_eq, rndByte_toInt s.w, rndOverflows_iff s.w,
    State.round_y_of_fits⟩

/-! ### TAW, TWA and CLW -/

theorem wordOf_zero_toNat (hi : Byte) : (wordOf hi 0).toNat = 256 * hi.toNat :=
  wordOf_toNat hi 0

/-- W and P alone, as TAW and CLW set them (R198, R200). -/
theorem State.implied_setW_setP_eq (s : State) (w : Word) (p : Status) :
    (s.implied.setW w).setP p =
      { s with
        w := w, p := p, pc := s.pc + 1, bus := ((s.implied.setW w).setP p).bus } := rfl

/-- Settles O33: TAW and CLW set W and P, TWA is a load of the high byte. -/
theorem wMoveResults : Obligations.WMoveResults := by
  intro s
  have hcycles : s.implied.bus.cycles + 1 = s.bus.cycles + 2 := by rw [s.implied_cycles]
  refine ⟨?taw, ?twa, ?clw⟩
  case taw =>
    exact ⟨⟨rfl, rfl⟩, _, rfl, s.implied_setW_setP_eq _ _, wordOf_zero_toNat s.a, hcycles⟩
  case twa =>
    exact ⟨⟨rfl, rfl⟩, _, rfl, s.implied_loadA_eq _, hiByte_toNat s.w, hcycles⟩
  case clw =>
    exact ⟨⟨rfl, rfl⟩, _, rfl, s.implied_setW_setP_eq _ _, hcycles⟩

end Sys2Proof.Machine
end

section
/-! Bit manipulation and bit test-and-branch (spec/44_bit_ops.md R210 to R217): O34 to O37. -/

namespace Sys2Proof.Machine

/-! ### Masks -/

theorem bitOf_not (v : Byte) (k : Fin 8) : bitOf (~~~v) k = !bitOf v k := by
  simp [bitOf]

theorem bitOf_bitMask (b k : Fin 8) : bitOf (bitMask b) k = decide (k = b) := by
  revert b k
  decide

/-- `f` gives the bits that are 1 in the mask the value and leaves the others alone. -/
def Assigns (f : Byte → Byte) (mask : Byte) (value : Bool) : Prop :=
  ∀ (v : Byte) (k : Fin 8),
    bitOf (f v) k = if bitOf mask k = true then value else bitOf v k

/-- What RMB and RBA do to a byte (R210, R212). -/
theorem assigns_and_not (mask : Byte) : Assigns (fun v => v &&& ~~~mask) mask false := by
  intro v k
  rw [bitOf_and, bitOf_not]
  cases bitOf mask k <;> simp

/-- What SMB and SBA do to a byte (R211, R213). -/
theorem assigns_or (mask : Byte) : Assigns (fun v => v ||| mask) mask true := by
  intro v k
  rw [bitOf_or]
  cases bitOf mask k <;> simp

/-- With the mask of one bit that bit alone is assigned. -/
theorem Assigns.bitOf_of_bitMask {f : Byte → Byte} {b : Fin 8} {value : Bool}
    (h : Assigns f (bitMask b) value) (v : Byte) (k : Fin 8) :
    bitOf (f v) k = if k = b then value else bitOf v k := by
  simp only [h v k, bitOf_bitMask, decide_eq_true_eq]

/-! ### RMB and SMB -/

theorem exec_rmbForm (n : Byte) (b : Fin 8) (s : State) :
    exec (rmbForm n b) s = .next (s.changeBit n fun v => v &&& ~~~bitMask b) := by
  fin_cases b <;> rfl

theorem exec_smbForm (n : Byte) (b : Fin 8) (s : State) :
    exec (smbForm n b) s = .next (s.changeBit n fun v => v ||| bitMask b) := by
  fin_cases b <;> rfl

/-- The change of a bit changes memory and PC. -/
theorem State.changeBit_eq (s : State) (n : Byte) (f : Byte → Byte) :
    s.changeBit n f =
      { s with
        mem := (s.changeBit n f).mem, pc := s.pc + 2, bus := (s.changeBit n f).bus } := rfl

/-- Settles O34: each form is one write of the byte read, with one bit assigned. -/
theorem setResetBitResults : Obligations.SetResetBitResults := by
  intro s n b i value hform
  obtain ⟨f, hexec, hassigns⟩ :
      ∃ f, exec i s = .next (s.changeBit n f) ∧ Assigns f (bitMask b) value := by
    obtain ⟨rfl, rfl⟩ | ⟨rfl, rfl⟩ := hform
    · exact ⟨_, exec_rmbForm n b s, assigns_and_not (bitMask b)⟩
    · exact ⟨_, exec_smbForm n b s, assigns_or (bitMask b)⟩
  exact ⟨_, s.peek (zext n), _, hexec, State.peek_stored, hassigns.bitOf_of_bitMask _,
    s.changeBit_eq n f, storesBytes_of_one_write (s.changeBit_writes n f)⟩

/-! ### RBA and SBA -/

/-- The change of masked bits changes memory, PC and, to a free byte, A (R212, D17). -/
theorem State.maskBits_eq (s : State) (nn : Word) (f : Byte → Byte) :
    s.maskBits nn f =
      { s with
        a := (s.maskBits nn f).a, mem := (s.maskBits nn f).mem, pc := s.pc + 4
        bus := (s.maskBits nn f).bus } := rfl

/-- Settles O35: each form is one write of the byte read, with the bits of the mask assigned. -/
theorem maskedSetResetResults : Obligations.MaskedSetResetResults := by
  intro s mask nn op i value hform
  obtain ⟨f, hencoded, hexec, hassigns⟩ :
      ∃ f, IsEncoded op i 4 ∧ exec i s = .next (s.maskBits nn f) ∧ Assigns f mask value := by
    obtain ⟨rfl, rfl, rfl⟩ | ⟨rfl, rfl, rfl⟩ := hform
    · exact ⟨_, ⟨rfl, rfl⟩, rfl, assigns_and_not mask⟩
    · exact ⟨_, ⟨rfl, rfl⟩, rfl, assigns_or mask⟩
  exact ⟨hencoded, _, s.draw.2.peek nn, _, hexec, State.peek_stored (s := s.draw.2), hassigns _,
    s.maskBits_eq nn f, storesBytes_of_one_write (s.maskBits_writes nn f)⟩

/-! ### The branch after a bit test -/

/-- The target by arithmetic: the address of the next instruction plus the signed offset (R111,
R116, R118). -/
theorem branchTarget_eq_ofInt (pc : Word) (len : Nat) (r : Byte) :
    branchTarget (pc + BitVec.ofNat 16 len) r =
      BitVec.ofInt 16 (pc.toNat + len + r.toInt) := by
  rw [BitVec.ofInt_add, BitVec.ofInt_add, BitVec.ofInt_natCast, BitVec.ofInt_natCast,
    BitVec.ofNat_toNat, BitVec.setWidth_eq]
  rfl

/-- The branch of a bit test whose condition says `P`, after reads that only the record of the bus
shows. -/
theorem State.bitBranch_after_reads {s u : State} {cond : Bool} {P : Prop} [Decidable P]
    (hu : u = { s with bus := u.bus }) (hcond : cond = true ↔ P) (len : Nat) (r : Byte) :
    u.bitBranch cond len r =
      { s with
        pc := if P then BitVec.ofInt 16 (s.pc.toNat + len + r.toInt)
          else s.pc + BitVec.ofNat 16 len
        bus := (u.bitBranch cond len r).bus } := by
  have hpc : u.pc = s.pc := by rw [hu]
  rw [u.bitBranch_eq, branchTarget_eq_ofInt, hpc]
  simp only [hcond]
  rw [hu]

/-! ### BBR and BBS -/

theorem exec_bbrForm (n r : Byte) (b : Fin 8) (s : State) :
    exec (bbrForm n r b) s = .next (s.testBit n (fun v => !bitOf v b) r) := by
  fin_cases b <;> rfl

theorem exec_bbsForm (n r : Byte) (b : Fin 8) (s : State) :
    exec (bbsForm n r b) s = .next (s.testBit n (fun v => bitOf v b) r) := by
  fin_cases b <;> rfl

/-- Settles O36: each form branches on one bit of the byte it reads. -/
theorem bitBranchResults : Obligations.BitBranchResults := by
  intro s n r b i value hform
  obtain ⟨cond, hexec, hcond⟩ :
      ∃ cond, exec i s = .next (s.testBit n cond r) ∧
        ∀ v : Byte, cond v = true ↔ bitOf v b = value := by
    obtain ⟨rfl, rfl⟩ | ⟨rfl, rfl⟩ := hform
    · exact ⟨_, exec_bbrForm n r b s, fun _ => Iff.of_eq (Bool.not_eq_true' _)⟩
    · exact ⟨_, exec_bbsForm n r b s, fun _ => Iff.rfl⟩
  exact ⟨_, s.peek (zext n), hexec, State.peek_stored,
    State.bitBranch_after_reads rfl (hcond _) 3 r⟩

/-! ### BAR and BAS -/

theorem Byte.ne_zero_iff_exists_bitOf (v : Byte) : v ≠ 0 ↔ ∃ k : Fin 8, bitOf v k = true := by
  constructor
  · intro hne
    by_contra! hall
    exact hne (BitVec.eq_of_getLsbD_eq fun k hk => by simpa [bitOf] using hall ⟨k, hk⟩)
  · rintro ⟨k, hk⟩ rfl
    simp [bitOf] at hk

/-- The condition of BAR: some bit of the mask is 0 in the byte (R216). -/
theorem not_and_mask_ne_zero_iff (v mask : Byte) :
    ~~~v &&& mask ≠ 0 ↔ ∃ k : Fin 8, bitOf mask k = true ∧ bitOf v k = false := by
  simp only [Byte.ne_zero_iff_exists_bitOf, bitOf_and, bitOf_not, Bool.and_eq_true,
    Bool.not_eq_true', and_comm]

/-- The condition of BAS: some bit of the mask is 1 in the byte (R217). -/
theorem and_mask_ne_zero_iff (v mask : Byte) :
    v &&& mask ≠ 0 ↔ ∃ k : Fin 8, bitOf mask k = true ∧ bitOf v k = true := by
  simp only [Byte.ne_zero_iff_exists_bitOf, bitOf_and, Bool.and_eq_true, and_comm]

/-- Settles O37: each form branches on the bits of the mask in the byte it reads. -/
theorem maskBranchResults : Obligations.MaskBranchResults := by
  intro s nn mask r op i value hform
  obtain ⟨cond, hencoded, hexec, hcond⟩ :
      ∃ cond, IsEncoded op i 5 ∧ exec i s = .next (s.maskBranch nn cond r) ∧
        ∀ v : Byte, cond v = true ↔ ∃ k : Fin 8, bitOf mask k = true ∧ bitOf v k = value := by
    obtain ⟨rfl, rfl, rfl⟩ | ⟨rfl, rfl, rfl⟩ := hform
    · exact ⟨_, ⟨rfl, rfl⟩, rfl,
        fun v => decide_eq_true_iff.trans (not_and_mask_ne_zero_iff v mask)⟩
    · exact ⟨_, ⟨rfl, rfl⟩, rfl, fun v => decide_eq_true_iff.trans (and_mask_ne_zero_iff v mask)⟩
  exact ⟨hencoded, _, s.peek nn, hexec, State.peek_stored,
    State.bitBranch_after_reads rfl (hcond _) 5 r⟩

end Sys2Proof.Machine
end

section
/-! Branches, jumps, calls, returns and BRK (spec/45_branch_jump.md R220 to R237): O38 to O42 and
O46. -/

namespace Sys2Proof.Machine

/-! ### Conditional branches and BRA -/

/-- A two-byte branch with its target by arithmetic (R111). -/
theorem State.branch_eq_ofInt (s : State) (cond : Bool) (r : Byte) :
    s.branch cond r =
      { s with
        pc := if cond = true then BitVec.ofInt 16 (s.pc.toNat + 2 + r.toInt) else s.pc + 2
        bus := (s.branch cond r).bus } := by
  have htarget : branchTarget (s.pc + 2) r = BitVec.ofInt 16 (s.pc.toNat + 2 + r.toInt) :=
    branchTarget_eq_ofInt s.pc 2 r
  rw [← htarget]
  exact s.branch_eq cond r

/-- Settles O38: each of the nine is the branch on its one flag, or on none. -/
theorem relativeBranchResults : Obligations.RelativeBranchResults := by
  intro s r op i cond hform
  obtain ⟨hencoded, hexec⟩ : IsEncoded op i 2 ∧ exec i s = .next (s.branch cond r) := by
    obtain ⟨rfl, rfl, rfl⟩ | ⟨rfl, rfl, rfl⟩ | ⟨rfl, rfl, rfl⟩ | ⟨rfl, rfl, rfl⟩ |
      ⟨rfl, rfl, rfl⟩ | ⟨rfl, rfl, rfl⟩ | ⟨rfl, rfl, rfl⟩ | ⟨rfl, rfl, rfl⟩ |
      ⟨rfl, rfl, rfl⟩ := hform
    all_goals exact ⟨⟨rfl, rfl⟩, rfl⟩
  exact ⟨hencoded, _, hexec, s.branch_eq_ofInt cond r⟩

/-! ### Jumps -/

/-- A jump through a pointer changes PC and the record of the bus (R231). -/
theorem State.jumpThrough_eq (s : State) (ptr : Word) :
    s.jumpThrough ptr =
      { s with pc := (s.jumpThrough ptr).pc, bus := (s.jumpThrough ptr).bus } := rfl

/-- Where the pointer is memory, PC becomes the word that it holds (R112). -/
theorem State.jumpThrough_pc {s : State} {ptr : Word} (h : s.WordStored ptr) :
    (s.jumpThrough ptr).pc = s.wordAt ptr :=
  State.read16_value h.1 h.2

/-- JMP (nn,X) changes PC and the record of the bus (R232). -/
theorem State.jumpIndexed_eq (s : State) (nn : Word) :
    s.jumpIndexed nn =
      { s with pc := (s.jumpIndexed nn).pc, bus := (s.jumpIndexed nn).bus } := rfl

/-- The ignored read of JMP (nn,X) changes no byte of the pointer (R113). -/
theorem State.jumpIndexed_pc {s : State} {nn : Word} (h : s.WordStored (nn + zext s.x)) :
    (s.jumpIndexed nn).pc = s.wordAt (nn + zext s.x) :=
  State.jumpThrough_pc (s := s.touch (uncorrected nn s.x)) h

/-- Settles O39: the pointer of the indexed form is `nn + X` as a 16-bit sum (D8). -/
theorem jumpResults : Obligations.JumpResults := by
  intro s nn
  refine ⟨⟨⟨rfl, rfl⟩, rfl⟩,
    ⟨⟨rfl, rfl⟩, _, rfl, s.jumpThrough_eq nn, State.jumpThrough_pc⟩,
    ⟨⟨rfl, rfl⟩, _, rfl, s.jumpIndexed_eq nn, fun ptr hptr hstored => ?_⟩⟩
  obtain rfl : ptr = nn + zext s.x :=
    BitVec.eq_of_toNat_eq (hptr.trans (add_zext_toNat nn s.x).symm)
  exact State.jumpIndexed_pc hstored

/-! ### Bytes pushed -/

/-- Where memory is that after writes at different addresses, it has taken exactly their bytes. -/
theorem storesBytes_of_writes {s t : State} {ws : List (Word × Byte)}
    (hdistinct : (ws.map Prod.fst).Nodup) (h : t.mem = (s.writes ws).mem) :
    StoresBytes s t ws := by
  obtain ⟨hwritten, hother⟩ := State.storesBytes_writes (s := s) hdistinct
  exact ⟨fun w hw => (State.byteAt_congr h w.1).trans (hwritten w hw),
    fun a ha => (State.byteAt_congr h a).trans (hother a ha)⟩

/-- Three pushes in a row go to three addresses, wherever S wraps (D7). -/
theorem nodup_stackAddr_three (sp : Byte) :
    [stackAddr sp, stackAddr (sp - 1), stackAddr (sp - 2)].Nodup := by
  have hne : sp ≠ sp - 1 ∧ sp ≠ sp - 2 := ⟨by bv_omega, by bv_omega⟩
  simpa using hne

theorem nodup_stackAddr_two (sp : Byte) : [stackAddr sp, stackAddr (sp - 1)].Nodup :=
  (nodup_stackAddr_three sp).sublist (by simp)

/-- A 16-bit push is two writes, high byte first (R45, R250). -/
theorem State.push16_writes (s : State) (v : Word) :
    (s.push16 v).mem =
      (s.writes [(stackAddr s.sp, hiByte v), (stackAddr (s.sp - 1), loByte v)]).mem := rfl

/-- Above page one a 16-bit push changes no byte. -/
theorem State.byteAt_push16_above_stack (s : State) (v : Word) {a : Word}
    (h : 0x200 ≤ a.toNat) : (s.push16 v).byteAt a = s.byteAt a := by
  have hne : ∀ sp : Byte, a ≠ stackAddr sp := by
    rintro sp rfl
    have hsp : sp.toNat < 256 := sp.isLt
    rw [stackAddr_toNat] at h
    omega
  simp [State.byteAt_push16, hne]

/-! ### JSR and JSB -/

/-- The vectors of JSB by arithmetic (R120). -/
theorem jsbVector_toNat (n : Fin 8) : (jsbVector n).toNat = 0xFFE0 + 2 * n.val := by
  fin_cases n <;> rfl

theorem jsbVector_add_one_toNat (n : Fin 8) : (jsbVector n + 1).toNat = 0xFFE1 + 2 * n.val := by
  fin_cases n <;> rfl

theorem exec_jsbForm (b : Fin 8) (s : State) : exec (jsbForm b) s = .next (s.jumpVector b) := by
  fin_cases b <;> rfl

theorem length_encode_jsbForm (b : Fin 8) : (encode (jsbForm b)).length = 1 := by
  fin_cases b <;> rfl

/-- JSR changes S, memory and PC (R233). -/
theorem State.push16_setPc_eq (s : State) (v target : Word) :
    (s.push16 v).setPc target =
      { s with
        sp := s.sp - 2, mem := ((s.push16 v).setPc target).mem, pc := target
        bus := ((s.push16 v).setPc target).bus } := by
  rw [← Byte.sub_one_sub_one]
  rfl

/-- JSB changes S, memory and PC (R234). -/
theorem State.jumpVector_eq (s : State) (n : Fin 8) :
    s.jumpVector n =
      { s with
        sp := s.sp - 2, mem := (s.jumpVector n).mem, pc := (s.jumpVector n).pc
        bus := (s.jumpVector n).bus } := by
  rw [← Byte.sub_one_sub_one]
  apply State.ext <;> simp [State.jumpVector, State.jumpThrough]

/-- What JSB writes is the 16-bit push; the ignored read before it writes nothing (R234). -/
theorem State.jumpVector_writes (s : State) (n : Fin 8) :
    (s.jumpVector n).mem =
      (s.writes [(stackAddr s.sp, hiByte (s.pc + 1)),
        (stackAddr (s.sp - 1), loByte (s.pc + 1))]).mem := by
  rw [State.jumpVector, State.jumpThrough_mem, State.push16_writes]
  exact State.writes_mem_congr (s.touch_mem _) (s.touch_params _) _

/-- The vectors of JSB lie above the stack, so that the pushes leave them alone. -/
theorem State.jumpVector_pc {s : State} {n : Fin 8} (h : s.WordStored (jsbVector n)) :
    (s.jumpVector n).pc = s.wordAt (jsbVector n) := by
  have hlow := (s.touch (s.pc + 1)).byteAt_push16_above_stack (s.pc + 1) (a := jsbVector n)
    (by rw [jsbVector_toNat]; omega)
  have hhigh := (s.touch (s.pc + 1)).byteAt_push16_above_stack (s.pc + 1) (a := jsbVector n + 1)
    (by rw [jsbVector_add_one_toNat]; omega)
  calc (s.jumpVector n).pc
      = ((s.touch (s.pc + 1)).push16 (s.pc + 1)).wordAt (jsbVector n) := State.jumpThrough_pc h
    _ = s.wordAt (jsbVector n) := congrArg₂ wordOf hhigh hlow

/-- Settles O40: a 16-bit push, and then the operand or the vector. -/
theorem callResults : Obligations.CallResults := by
  intro s
  refine ⟨fun nn => ⟨⟨rfl, rfl⟩, _, rfl, s.push16_setPc_eq _ nn, ?_⟩,
    fun b => ⟨length_encode_jsbForm b, _, exec_jsbForm b s, s.jumpVector_eq b,
      fun vector hvector hstored => ?_, ?_⟩⟩
  · exact storesBytes_of_writes (nodup_stackAddr_two s.sp) (s.push16_writes (s.pc + 3))
  · obtain rfl : vector = jsbVector b :=
      BitVec.eq_of_toNat_eq (hvector.trans (jsbVector_toNat b).symm)
    exact State.jumpVector_pc hstored
  · exact storesBytes_of_writes (nodup_stackAddr_two s.sp) (s.jumpVector_writes b)

/-! ### RTS and RTI -/

theorem Byte.add_one_add_one (b : Byte) : b + 1 + 1 = b + 2 := by
  rw [BitVec.add_assoc]
  rfl

theorem Byte.add_two_add_one (b : Byte) : b + 2 + 1 = b + 3 := by
  rw [BitVec.add_assoc]
  rfl

theorem State.loByte_pull16 {s : State} (h : s.Stored (stackAddr (s.sp + 1))) :
    loByte s.pull16.1 = s.byteAt (stackAddr (s.sp + 1)) :=
  (loByte_wordOf _ _).trans (State.pull_value h)

theorem State.hiByte_pull16 {s : State} (h : s.Stored (stackAddr (s.sp + 2))) :
    hiByte s.pull16.1 = s.byteAt (stackAddr (s.sp + 2)) := by
  rw [← Byte.add_one_add_one] at h ⊢
  exact (hiByte_wordOf _ _).trans (State.pull_value (s := s.pull.2) h)

/-- RTS changes S and PC (R235). -/
theorem State.returnFromSubroutine_eq (s : State) :
    s.returnFromSubroutine =
      { s with
        sp := s.sp + 2, pc := s.returnFromSubroutine.pc, bus := s.returnFromSubroutine.bus } := by
  rw [← Byte.add_one_add_one]
  apply State.ext <;> simp [State.returnFromSubroutine]

/-- The low byte of the address that RTI goes to is the second of the three pulled (R236). -/
theorem State.loByte_returnFromException_pc {s : State} (h : s.Stored (stackAddr (s.sp + 2))) :
    loByte s.returnFromException.pc = s.byteAt (stackAddr (s.sp + 2)) := by
  rw [← Byte.add_one_add_one] at h ⊢
  exact State.loByte_pull16 (s := s.pull.2.setP (restoreP s.pull.1 s.p)) h

theorem State.hiByte_returnFromException_pc {s : State} (h : s.Stored (stackAddr (s.sp + 3))) :
    hiByte s.returnFromException.pc = s.byteAt (stackAddr (s.sp + 3)) := by
  have hsp : s.sp + 1 + 2 = s.sp + 3 := by
    rw [BitVec.add_assoc]
    rfl
  rw [← hsp] at h ⊢
  exact State.hiByte_pull16 (s := s.pull.2.setP (restoreP s.pull.1 s.p)) h

/-- Returning from an exception changes S, six flags and PC (R236, R257). -/
theorem State.returnFromException_eq_add_three (s : State) :
    s.returnFromException =
      { s with
        sp := s.sp + 3, p := restoreP s.pull.1 s.p
        pc := s.returnFromException.pc, bus := s.returnFromException.bus } := by
  rw [← Byte.add_two_add_one, ← Byte.add_one_add_one]
  exact s.returnFromException_eq

/-- RTI returns from an exception after two ignored reads, which only the record of the bus shows.
-/
theorem exec_rti (s : State) :
    ∃ b : Bus, exec .rti s = .next { s with bus := b }.returnFromException := by
  obtain ⟨b, hb, -⟩ := State.touchTimes_only_bus 2 s (s.pc + 1)
  exact ⟨b, congrArg (fun u : State => Host.Outcome.next u.returnFromException) hb⟩

/-- Settles O41: what is pulled stands above S, and the ignored reads before change no byte. -/
theorem returnResults : Obligations.ReturnResults := by
  intro s
  refine ⟨⟨⟨rfl, rfl⟩, _, rfl, s.returnFromSubroutine_eq,
    State.loByte_pull16 (s := s.touchTimes 2 (s.pc + 1)),
    State.hiByte_pull16 (s := s.touchTimes 2 (s.pc + 1))⟩, ⟨rfl, rfl⟩, ?_⟩
  obtain ⟨b, hexec⟩ := exec_rti s
  exact ⟨_, _, hexec, { s with bus := b }.returnFromException_eq_add_three,
    State.pull_value (s := { s with bus := b }),
    State.loByte_returnFromException_pc (s := { s with bus := b }),
    State.hiByte_returnFromException_pc (s := { s with bus := b })⟩

/-! ### BRK -/

/-- BRK changes S, sets B and I_flag, and changes memory and PC (R237, R301). -/
theorem State.softwareBreak_eq (s : State) :
    s.softwareBreak =
      { s with
        sp := s.sp - 3, p := { s.p with b := true, i := true }
        mem := s.softwareBreak.mem, pc := s.softwareBreak.pc, bus := s.softwareBreak.bus } := by
  have hsp : s.sp - 1 - 1 - 1 = s.sp - 3 := by
    rw [Byte.sub_one_sub_one, BitVec.sub_sub]
    rfl
  rw [← hsp]
  apply State.ext <;> simp [State.softwareBreak]

/-- Settles O42: the exception that BRK takes, the vector read after the three pushes. -/
theorem breakResult : Obligations.BreakResult := by
  intro s
  refine ⟨⟨rfl, rfl⟩, _, rfl, s.softwareBreak_eq,
    storesBytes_of_writes (nodup_stackAddr_three s.sp) s.softwareBreak_writes, fun h => ?_⟩
  obtain ⟨hlow, hhigh⟩ := h
  exact State.takeException_pc (s := s.touch (s.pc + 1)) hlow hhigh

/-! ### RTS after JSR -/

/-- Settles O46 from O40 and O41: the two bytes that RTS pulls are those that JSR pushed. -/
theorem callThenReturn : Obligations.CallThenReturn := by
  intro s t nn hramHigh hramLow hcall
  obtain ⟨-, t', hexec, ht, hstored, -⟩ := (callResults s).1 nn
  obtain rfl : t' = t := Host.Outcome.next.inj (hexec.symm.trans hcall)
  obtain ⟨⟨-, u, hreturn, hu, hlo, hhi⟩, -⟩ := returnResults t'
  have hspLow : t'.sp + 1 = s.sp - 1 := by rw [ht]; bv_omega
  have hspHigh : t'.sp + 2 = s.sp := by rw [ht]; bv_omega
  have hkind : ∀ a, t'.kindAt a = s.kindAt a := State.kindAt_congr (by rw [ht])
  rw [hspLow] at hlo
  rw [hspHigh] at hhi hu
  have hpushedHigh := hstored (stackAddr s.sp, hiByte (s.pc + 3)) (by simp)
  have hpushedLow := hstored (stackAddr (s.sp - 1), loByte (s.pc + 3)) (by simp)
  have hpulledHigh : hiByte u.pc = hiByte (s.pc + 3) := by
    rw [hhi (.inl ((hkind _).trans hramHigh)), hpushedHigh, if_pos hramHigh]
  have hpulledLow : loByte u.pc = loByte (s.pc + 3) := by
    rw [hlo (.inl ((hkind _).trans hramLow)), hpushedLow, if_pos hramLow]
  have hpc : u.pc = s.pc + 3 := by
    rw [← wordOf_hiByte_loByte u.pc, hpulledHigh, hpulledLow, wordOf_hiByte_loByte]
  have hmem : u.mem = t'.mem := by rw [hu]
  refine ⟨u, hreturn, ?_⟩
  rw [hpc, ← hmem, ht] at hu
  exact hu

end Sys2Proof.Machine
end

section
/-! Pushes and pulls (spec/46_stack.md R250 to R266): O43 to O45 and O47. -/

namespace Sys2Proof.Machine

/-! ### Pushes -/

/-- The state after these bytes are pushed, in this order. -/
def State.pushAll : State → List Byte → State
  | s, [] => s
  | s, v :: vs => State.pushAll (s.push v) vs

/-- The writes of these pushes with the stack pointer at `sp`: downwards, one byte each (R250). -/
def pushWrites : Byte → List Byte → List (Word × Byte)
  | _, [] => []
  | sp, v :: vs => (stackAddr sp, v) :: pushWrites (sp - 1) vs

/-- Pushes change S, memory and the record of the bus. -/
theorem State.pushAll_eq (s : State) (bytes : List Byte) :
    s.pushAll bytes =
      { s with
        sp := s.sp - BitVec.ofNat 8 bytes.length
        mem := (s.pushAll bytes).mem, bus := (s.pushAll bytes).bus } := by
  induction bytes generalizing s with
  | nil => simp [State.pushAll]
  | cons v vs ih =>
    have hsp : s.sp - 1 - BitVec.ofNat 8 vs.length =
        s.sp - BitVec.ofNat 8 (v :: vs).length := by
      rw [BitVec.sub_sub, List.length_cons, Nat.add_comm, BitVec.ofNat_add]
      rfl
    rw [← hsp]
    exact ih (s.push v)

theorem State.pushAll_sp (s : State) (bytes : List Byte) :
    (s.pushAll bytes).sp = s.sp - BitVec.ofNat 8 bytes.length := by
  rw [State.pushAll_eq]

theorem State.pushAll_p (s : State) (bytes : List Byte) : (s.pushAll bytes).p = s.p := by
  rw [State.pushAll_eq]

theorem State.pushAll_params (s : State) (bytes : List Byte) :
    (s.pushAll bytes).params = s.params := by
  rw [State.pushAll_eq]

theorem State.pushAll_writes (s : State) (bytes : List Byte) :
    (s.pushAll bytes).mem = (s.writes (pushWrites s.sp bytes)).mem := by
  induction bytes generalizing s with
  | nil => rfl
  | cons v vs ih =>
    exact (ih (s.push v)).trans
      (State.writes_mem_congr (s := s.write (stackAddr s.sp) v) (u := s.push v) rfl rfl _)

/-- No instruction pushes more than three bytes, so that three addresses name them all. -/
theorem pushWrites_eq_zip (sp : Byte) :
    ∀ {bytes : List Byte}, bytes.length ≤ 3 →
      pushWrites sp bytes = [stackAddr sp, stackAddr (sp - 1), stackAddr (sp - 2)].zip bytes
  | [], _ => rfl
  | [_], _ => rfl
  | [_, _], _ => rfl
  | [_, _, _], _ => by rw [← Byte.sub_one_sub_one]; rfl

/-- The shorter list cuts the longer one off. -/
theorem map_fst_zip_sublist {α β : Type} :
    ∀ (as : List α) (bs : List β), ((as.zip bs).map Prod.fst).Sublist as
  | [], _ => List.nil_sublist _
  | _ :: _, [] => List.nil_sublist _
  | a :: as, _ :: bs => (map_fst_zip_sublist as bs).cons_cons a

/-- Up to three pushes after the ignored read of R101: memory takes the bytes, from 0x0100 + S
downwards. -/
theorem State.implied_pushAll_storesBytes (s : State) {bytes : List Byte}
    (hlength : bytes.length ≤ 3) :
    StoresBytes s (s.implied.pushAll bytes)
      ([stackAddr s.sp, stackAddr (s.sp - 1), stackAddr (s.sp - 2)].zip bytes) := by
  have hwrites := s.implied.pushAll_writes bytes
  rw [pushWrites_eq_zip _ hlength, State.writes_mem_congr s.implied_mem s.implied_params] at hwrites
  exact storesBytes_of_writes
    ((nodup_stackAddr_three s.sp).sublist (map_fst_zip_sublist _ _)) hwrites

/-- Settles O43: each of the seven is the pushes of its bytes after one ignored read. -/
theorem pushResults : Obligations.PushResults := by
  intro s op i bytes hform
  obtain ⟨hencoded, hexec, hlength⟩ :
      IsEncoded op i 1 ∧ exec i s = .next (s.implied.pushAll bytes) ∧ bytes.length ≤ 3 := by
    obtain ⟨rfl, rfl, rfl⟩ | ⟨rfl, rfl, rfl⟩ | ⟨rfl, rfl, rfl⟩ | ⟨rfl, rfl, rfl⟩ |
      ⟨rfl, rfl, rfl⟩ | ⟨rfl, rfl, rfl⟩ | ⟨rfl, rfl, rfl⟩ := hform <;>
      exact ⟨⟨rfl, rfl⟩, rfl, by simp⟩
  exact ⟨hencoded, _, hexec, s.implied.pushAll_eq bytes, s.implied_pushAll_storesBytes hlength⟩

/-! ### Pulls -/

/-- The state after `n` bytes are pulled. -/
def State.afterPulls (s : State) : Nat → State
  | 0 => s
  | n + 1 => (s.afterPulls n).pull.2

@[simp] theorem State.afterPulls_mem (s : State) (n : Nat) : (s.afterPulls n).mem = s.mem := by
  induction n with
  | zero => rfl
  | succ n ih => exact ih

@[simp] theorem State.afterPulls_params (s : State) (n : Nat) :
    (s.afterPulls n).params = s.params := by
  induction n with
  | zero => rfl
  | succ n ih => exact ih

/-- What the `k`-th of several pulls reads, at 0x0100 + ((S + k) mod 256) (D7). -/
def State.pulled (s : State) (k : Byte) : Byte :=
  (s.afterPulls (k.toNat - 1)).peek (stackAddr (s.sp + k))

theorem State.pulled_stored {s : State} {k : Byte} (h : s.Stored (stackAddr (s.sp + k))) :
    s.pulled k = s.byteAt (stackAddr (s.sp + k)) := by
  rw [State.pulled, State.peek_stored, State.byteAt_congr (s.afterPulls_mem _)]
  rwa [State.kindAt_congr (s.afterPulls_params _)]

theorem State.pull_fst (s : State) : s.pull.1 = s.pulled 1 := rfl

theorem State.pull_pull_fst (s : State) : s.pull.2.pull.1 = s.pulled 2 := by
  rw [State.pulled, ← Byte.add_one_add_one]
  rfl

theorem State.pull_pull_pull_fst (s : State) : s.pull.2.pull.2.pull.1 = s.pulled 3 := by
  rw [State.pulled, ← Byte.add_two_add_one, ← Byte.add_one_add_one]
  rfl

/-- The first byte pulled is the low one (R45). -/
theorem State.pull16_fst (s : State) : s.pull16.1 = wordOf (s.pulled 2) (s.pulled 1) := by
  rw [← State.pull_pull_fst, ← State.pull_fst]
  rfl

/-- PLW writes no flag (R263). -/
theorem State.pullW_eq (s : State) :
    s.pullW =
      { s with
        w := wordOf (s.impliedPull.pulled 2) (s.impliedPull.pulled 1)
        sp := s.sp + 2, pc := s.pc + 1, bus := s.pullW.bus } := by
  rw [← State.pull16_fst, ← Byte.add_one_add_one]
  apply State.ext <;> simp [State.pullW, State.impliedPull]

/-- PLI writes no flag; its last ignored read changes only the record of the bus (R264). -/
theorem State.pullI_eq (s : State) :
    s.pullI =
      { s with
        ireg := wordOf (s.impliedPull.pulled 2) (s.impliedPull.pulled 1)
        sp := s.sp + 2, pc := s.pc + 1, bus := s.pullI.bus } := by
  rw [← State.pull16_fst, ← Byte.add_one_add_one]
  apply State.ext <;> simp [State.pullI, State.impliedPull]

/-- PUL pulls Y before X before A (R265). -/
theorem State.pullYXA_eq (s : State) :
    s.pullYXA =
      { s with
        y := s.impliedPull.pulled 1, x := s.impliedPull.pulled 2, a := s.impliedPull.pulled 3
        sp := s.sp + 3, pc := s.pc + 1, bus := s.pullYXA.bus } := by
  rw [← State.pull_fst, ← State.pull_pull_fst, ← State.pull_pull_pull_fst,
    ← Byte.add_two_add_one, ← Byte.add_one_add_one]
  apply State.ext <;> simp [State.pullYXA, State.impliedPull]

/-- PLA, PLX and PLY load a register with the one byte that they pull (R259, R261, R262). -/
theorem State.pullA_eq (s : State) :
    s.pullA =
      { s with
        a := s.impliedPull.pulled 1, p := s.p.setNZ (s.impliedPull.pulled 1)
        sp := s.sp + 1, pc := s.pc + 1, bus := s.pullA.bus } := by
  rw [← State.pull_fst]
  apply State.ext <;> simp [State.pullA, State.loadA, State.impliedPull]

theorem State.pullX_eq (s : State) :
    s.pullX =
      { s with
        x := s.impliedPull.pulled 1, p := s.p.setNZ (s.impliedPull.pulled 1)
        sp := s.sp + 1, pc := s.pc + 1, bus := s.pullX.bus } := by
  rw [← State.pull_fst]
  apply State.ext <;> simp [State.pullX, State.loadX, State.impliedPull]

theorem State.pullY_eq (s : State) :
    s.pullY =
      { s with
        y := s.impliedPull.pulled 1, p := s.p.setNZ (s.impliedPull.pulled 1)
        sp := s.sp + 1, pc := s.pc + 1, bus := s.pullY.bus } := by
  rw [← State.pull_fst]
  apply State.ext <;> simp [State.pullY, State.loadY, State.impliedPull]

/-- PLP takes six flags from the byte and keeps B (R260, D4). -/
theorem State.pullP_eq (s : State) :
    s.pullP =
      { s with
        p := restoreP (s.impliedPull.pulled 1) s.p
        sp := s.sp + 1, pc := s.pc + 1, bus := s.pullP.bus } := by
  rw [← State.pull_fst]
  apply State.ext <;> simp [State.pullP, State.impliedPull]

/-- Settles O44: the bytes are those pulled after the two ignored reads of R257, which change
neither S nor memory. -/
theorem pullResults : Obligations.PullResults := by
  intro s
  refine ⟨fun _ => s.impliedPull.pulled,
    fun _ k => State.pulled_stored (s := s.impliedPull),
    ⟨⟨rfl, rfl⟩, _, rfl, ?pla⟩, ⟨⟨rfl, rfl⟩, _, rfl, ?plx⟩, ⟨⟨rfl, rfl⟩, _, rfl, ?ply⟩,
    ⟨⟨rfl, rfl⟩, _, rfl, ?plp⟩, ⟨⟨rfl, rfl⟩, _, rfl, ?plw⟩, ⟨⟨rfl, rfl⟩, _, rfl, ?pli⟩,
    ⟨⟨rfl, rfl⟩, _, rfl, ?pul⟩⟩
  case pla => exact s.pullA_eq
  case plx => exact s.pullX_eq
  case ply => exact s.pullY_eq
  case plp => exact s.pullP_eq
  case plw => exact s.pullW_eq
  case pli => exact s.pullI_eq
  case pul => exact s.pullYXA_eq

/-- The byte at the pulled I, which PIA loads (R266). -/
def State.byteAtPulledI (s : State) : Byte := s.impliedPull.pull16.2.peek s.impliedPull.pull16.1

theorem State.byteAtPulledI_stored {s : State} (h : s.Stored s.impliedPull.pull16.1) :
    s.byteAtPulledI = s.byteAt s.impliedPull.pull16.1 := by
  have hkind := State.kindAt_congr (s := s) (t := s.impliedPull.pull16.2)
    (by simp [State.impliedPull]) s.impliedPull.pull16.1
  rw [State.byteAtPulledI, State.peek_stored (by rwa [hkind])]
  exact State.byteAt_congr (by simp) _

/-- PIA writes X only where `PIA_LOADS_X` says so (R266, conflict C13). -/
theorem State.pullIA_eq (s : State) :
    s.pullIA =
      { s with
        a := s.byteAtPulledI, x := if s.params.piaLoadsX = true then s.byteAtPulledI else s.x
        ireg := s.impliedPull.pull16.1 + 1, sp := s.sp + 2
        p := s.p.setNZ s.byteAtPulledI, pc := s.pc + 1, bus := s.pullIA.bus } := by
  rw [← Byte.add_one_add_one]
  by_cases hx : s.params.piaLoadsX = true
  · apply State.ext <;>
      simp [State.pullIA, State.byteAtPulledI, State.loadA, State.impliedPull, State.read, hx]
  · apply State.ext <;>
      simp [State.pullIA, State.byteAtPulledI, State.loadA, State.impliedPull, State.read, hx]

/-- Settles O45: the 16-bit pull, and then the byte at what it yields. -/
theorem pullIAResult : Obligations.PullIAResult := by
  intro s
  exact ⟨⟨rfl, rfl⟩, _, s.impliedPull.pull16.1, s.byteAtPulledI, rfl,
    State.loByte_pull16 (s := s.impliedPull), State.hiByte_pull16 (s := s.impliedPull),
    State.byteAtPulledI_stored, s.pullIA_eq⟩

/-! ### A pull after the push -/

/-- A pull yields the byte that a push stored where the pull reads, whatever the registers are by
then. -/
theorem StoresBytes.pulled_eq {s t r : State} {ws : List (Word × Byte)} {sp k v : Byte}
    (h : StoresBytes s t ws) (hmem : r.mem = t.mem) (hparams : r.params = s.params)
    (hsp : r.sp + k = sp) (hw : (stackAddr sp, v) ∈ ws) (hram : s.kindAt (stackAddr sp) = .ram) :
    r.pulled k = v := by
  obtain ⟨hwritten, -⟩ := h
  subst hsp
  calc r.pulled k
      = r.byteAt (stackAddr (r.sp + k)) :=
        State.pulled_stored (.inl ((State.kindAt_congr hparams _).trans hram))
    _ = t.byteAt (stackAddr (r.sp + k)) := State.byteAt_congr hmem _
    _ = v := (hwritten _ hw).trans (if_pos hram)

section WordPushed

variable {s t r : State} {v : Word}
    (h : StoresBytes s t [(stackAddr s.sp, hiByte v), (stackAddr (s.sp - 1), loByte v)])
    (hmem : r.mem = t.mem) (hparams : r.params = s.params) (hsp : r.sp = s.sp - 2)
    (hramHigh : s.kindAt (stackAddr s.sp) = .ram)
    (hramLow : s.kindAt (stackAddr (s.sp - 1)) = .ram)

include h hmem hparams hsp hramHigh hramLow

/-- The two bytes of a 16-bit push come back as the word that they were. -/
theorem StoresBytes.wordOf_pulled_eq :
    wordOf (r.pulled 2) (r.pulled 1) = v := by
  have hhigh : r.pulled 2 = hiByte v :=
    h.pulled_eq hmem hparams (by rw [hsp]; bv_omega) (by simp) hramHigh
  have hlow : r.pulled 1 = loByte v :=
    h.pulled_eq hmem hparams (by rw [hsp]; bv_omega) (by simp) hramLow
  rw [hhigh, hlow, wordOf_hiByte_loByte]

/-- PLW finds the word that PHW or PHI pushed (R255, R263). -/
theorem StoresBytes.pullW_eq :
    r.pullW = { r with w := v, sp := s.sp, pc := r.pc + 1, bus := r.pullW.bus } := by
  have hv : wordOf (r.impliedPull.pulled 2) (r.impliedPull.pulled 1) = v :=
    h.wordOf_pulled_eq hmem hparams hsp hramHigh hramLow
  have hspBack : r.sp + 2 = s.sp := by rw [hsp]; bv_omega
  rw [← hv, ← hspBack]
  exact r.pullW_eq

/-- PLI finds the word that PHI or PHW pushed (R256, R264). -/
theorem StoresBytes.pullI_eq :
    r.pullI = { r with ireg := v, sp := s.sp, pc := r.pc + 1, bus := r.pullI.bus } := by
  have hv : wordOf (r.impliedPull.pulled 2) (r.impliedPull.pulled 1) = v :=
    h.wordOf_pulled_eq hmem hparams hsp hramHigh hramLow
  have hspBack : r.sp + 2 = s.sp := by rw [hsp]; bv_omega
  rw [← hv, ← hspBack]
  exact r.pullI_eq

end WordPushed

/-- PUL finds what PSH pushed (R258, R265). -/
theorem StoresBytes.pullYXA_eq {s t r : State}
    (h : StoresBytes s t
      [(stackAddr s.sp, s.a), (stackAddr (s.sp - 1), s.x), (stackAddr (s.sp - 2), s.y)])
    (hmem : r.mem = t.mem) (hparams : r.params = s.params) (hsp : r.sp = s.sp - 3)
    (hramA : s.kindAt (stackAddr s.sp) = .ram) (hramX : s.kindAt (stackAddr (s.sp - 1)) = .ram)
    (hramY : s.kindAt (stackAddr (s.sp - 2)) = .ram) :
    r.pullYXA =
      { r with
        y := s.y, x := s.x, a := s.a, sp := s.sp, pc := r.pc + 1, bus := r.pullYXA.bus } := by
  have hspPull : r.impliedPull.sp = s.sp - 3 := hsp
  have ha : r.impliedPull.pulled 3 = s.a :=
    h.pulled_eq hmem hparams (by rw [hspPull]; bv_omega) (by simp) hramA
  have hx : r.impliedPull.pulled 2 = s.x :=
    h.pulled_eq hmem hparams (by rw [hspPull]; bv_omega) (by simp) hramX
  have hy : r.impliedPull.pulled 1 = s.y :=
    h.pulled_eq hmem hparams (by rw [hspPull]; bv_omega) (by simp) hramY
  have hspBack : r.sp + 3 = s.sp := by rw [hsp]; bv_omega
  rw [← ha, ← hx, ← hy, ← hspBack]
  exact r.pullYXA_eq

/-- Settles O47: each pull reads the addresses that its push wrote, in the opposite order. -/
theorem pushThenPull : Obligations.PushThenPull := by
  intro s t push pull hram0 hram1 hram2 hpair hpush a x y w ireg
  obtain ⟨rfl, rfl⟩ | ⟨rfl, rfl⟩ | ⟨rfl, rfl⟩ := hpair
  case inl =>
    obtain rfl : s.implied.pushAll [s.a, s.x, s.y] = t := Host.Outcome.next.inj hpush
    have hpulled := (s.implied_pushAll_storesBytes (bytes := [s.a, s.x, s.y]) le_rfl).pullYXA_eq
      (r := { s.implied.pushAll [s.a, s.x, s.y] with a := a, x := x, y := y, w := w, ireg := ireg })
      rfl (State.pushAll_params _ _) (State.pushAll_sp _ _) hram0 hram1 hram2
    exact ⟨_, congrArg Host.Outcome.next hpulled, rfl, State.pushAll_p _ _,
      fun _ => ⟨rfl, rfl, rfl, rfl, rfl⟩, nofun, nofun⟩
  case inr.inl =>
    obtain rfl : s.implied.pushAll [hiByte s.w, loByte s.w] = t := Host.Outcome.next.inj hpush
    have hpulled := (s.implied_pushAll_storesBytes (bytes := [hiByte s.w, loByte s.w])
      (by simp)).pullW_eq
      (r := { s.implied.pushAll [hiByte s.w, loByte s.w] with
        a := a, x := x, y := y, w := w, ireg := ireg })
      rfl (State.pushAll_params _ _) (State.pushAll_sp _ _) hram0 hram1
    exact ⟨_, congrArg Host.Outcome.next hpulled, rfl, State.pushAll_p _ _,
      nofun, fun _ => ⟨rfl, rfl, rfl, rfl, rfl⟩, nofun⟩
  case inr.inr =>
    obtain rfl : s.implied.pushAll [hiByte s.ireg, loByte s.ireg] = t :=
      Host.Outcome.next.inj hpush
    have hpulled := (s.implied_pushAll_storesBytes (bytes := [hiByte s.ireg, loByte s.ireg])
      (by simp)).pullI_eq
      (r := { s.implied.pushAll [hiByte s.ireg, loByte s.ireg] with
        a := a, x := x, y := y, w := w, ireg := ireg })
      rfl (State.pushAll_params _ _) (State.pushAll_sp _ _) hram0 hram1
    exact ⟨_, congrArg Host.Outcome.next hpulled, rfl, State.pushAll_p _ _,
      nofun, nofun, fun _ => ⟨rfl, rfl, rfl, rfl, rfl⟩⟩

end Sys2Proof.Machine
end

section
/-! Threaded code, the flag instructions and NOP (spec/47_threaded.md, spec/48_flags_nop.md): O48
and O49. -/

namespace Sys2Proof.Machine

/-! ### Threaded code -/

/-- NXT changes I and PC (R270). -/
theorem State.nextInstruction_eq (s : State) :
    s.nextInstruction =
      { s with
        pc := s.nextInstruction.pc, ireg := s.ireg + 2, bus := s.nextInstruction.bus } := by
  apply State.ext <;> simp [State.nextInstruction]

/-- NXT goes to the word at the old I; its ignored read changes no byte of it (R270). -/
theorem State.nextInstruction_pc {s : State} (h : s.WordStored s.ireg) :
    s.nextInstruction.pc = s.wordAt s.ireg :=
  State.read16_value (s := s.touch (s.pc + 1)) h.1 h.2

/-- LII changes I, and PC passes it (R271). -/
theorem State.loadIIndirect_eq (s : State) :
    s.loadIIndirect =
      { s with
        pc := s.pc + 1, ireg := s.loadIIndirect.ireg, bus := s.loadIIndirect.bus } := by
  apply State.ext <;> simp [State.loadIIndirect]

/-- LII reads both bytes before it changes I (R271). -/
theorem State.loadIIndirect_ireg {s : State} (h : s.WordStored s.ireg) :
    s.loadIIndirect.ireg = s.wordAt s.ireg :=
  State.read16_value (s := s.implied) h.1 h.2

/-- What LAI and LAN load, where I designates memory (R272, R273). -/
theorem State.implied_readThroughI_fst {s : State} (h : s.Stored s.ireg) :
    s.implied.readThroughI.1 = s.byteAt s.ireg :=
  State.peek_stored (s := s.implied) h

/-- JPI leaves the address of the next instruction in I (R275). -/
theorem State.jumpSavingI_eq (s : State) (ia : Word) :
    s.jumpSavingI ia =
      { s with
        pc := (s.jumpSavingI ia).pc, ireg := s.pc + 3, bus := (s.jumpSavingI ia).bus } := by
  apply State.ext <;> simp [State.jumpSavingI]

/-- JPI goes to the word at its operand address (R275, conflict C14). -/
theorem State.jumpSavingI_pc {s : State} {ia : Word} (h : s.WordStored ia) :
    (s.jumpSavingI ia).pc = s.wordAt ia :=
  State.read16_value h.1 h.2

/-- Settles O48: the frame of each of the seven, and the byte or word that it reads. -/
theorem threadedCodeResults : Obligations.ThreadedCodeResults := by
  intro s
  refine ⟨?nxt, ?lii, ?lai, ?lan, ?ini, fun nn => ?jpi, ?tip⟩
  case nxt => exact ⟨⟨rfl, rfl⟩, _, rfl, s.nextInstruction_eq, State.nextInstruction_pc⟩
  case lii => exact ⟨⟨rfl, rfl⟩, _, rfl, s.loadIIndirect_eq, State.loadIIndirect_ireg⟩
  case lai => exact ⟨⟨rfl, rfl⟩, _, rfl, rfl, State.implied_readThroughI_fst⟩
  case lan => exact ⟨⟨rfl, rfl⟩, _, rfl, rfl, State.implied_readThroughI_fst⟩
  case ini => exact ⟨⟨rfl, rfl⟩, _, rfl, rfl⟩
  case jpi => exact ⟨⟨rfl, rfl⟩, _, rfl, s.jumpSavingI_eq nn, State.jumpSavingI_pc⟩
  case tip => exact ⟨⟨rfl, rfl⟩, _, rfl, rfl⟩

/-! ### Flags -/

/-- A one-byte instruction that writes P: nothing else changes but PC. -/
theorem State.implied_setP_eq (s : State) (p : Status) :
    s.implied.setP p =
      { s with p := p, pc := s.pc + 1, bus := (s.implied.setP p).bus } := rfl

/-- Settles O49: each of the eight leaves its P, NOP the P that it finds. -/
theorem flagInstructionResults : Obligations.FlagInstructionResults := by
  intro s op i p hform
  obtain ⟨hencoded, hexec⟩ : IsEncoded op i 1 ∧ exec i s = .next (s.implied.setP p) := by
    obtain ⟨rfl, rfl, rfl⟩ | ⟨rfl, rfl, rfl⟩ | ⟨rfl, rfl, rfl⟩ | ⟨rfl, rfl, rfl⟩ |
      ⟨rfl, rfl, rfl⟩ | ⟨rfl, rfl, rfl⟩ | ⟨rfl, rfl, rfl⟩ | ⟨rfl, rfl, rfl⟩ := hform
    all_goals exact ⟨⟨rfl, rfl⟩, rfl⟩
  exact ⟨hencoded, _, hexec, s.implied_setP_eq p⟩

end Sys2Proof.Machine
end

section
/-! Interrupts, the return from one, and the start sequence (spec/60_exceptions.md,
spec/70_reset_and_hazards.md R330 and R331): O51 to O55. -/

namespace Sys2Proof.Machine

/-! ### The hardware sequence -/

theorem Byte.sub_two_sub_one (b : Byte) : b - 2 - 1 = b - 3 := by
  rw [BitVec.sub_sub]
  rfl

/-- The hardware sequence changes S, sets I_flag, and changes memory and PC (R305, R308). -/
theorem State.interruptSequence_eq (s : State) (vector : Word) :
    s.interruptSequence vector =
      { s with
        sp := s.sp - 3, p := { s.p with i := true }
        mem := (s.interruptSequence vector).mem, pc := (s.interruptSequence vector).pc
        bus := (s.interruptSequence vector).bus } := by
  rw [← Byte.sub_two_sub_one, ← Byte.sub_one_sub_one]
  apply State.ext <;> simp [State.interruptSequence]

/-- Memory takes the three bytes of R307.  Before the sequence a step clears the request, which is
no part of memory. -/
theorem State.interruptSequence_storesBytes {s u : State} (hmem : u.mem = s.mem)
    (hparams : u.params = s.params) (vector : Word) :
    StoresBytes s (u.interruptSequence vector)
      (exceptionFrame u.sp u.pc (pByte u.params.pBit5 u.p)) :=
  storesBytes_of_writes (nodup_stackAddr_three u.sp)
    (State.interruptSequence_writes hmem hparams vector)

/-- PC is the word that the vector holds when the pushes are done (R306). -/
theorem State.interruptSequence_pc {s : State} {vector : Word} (h : s.WordStored vector) :
    (s.interruptSequence vector).pc = (s.interruptSequence vector).wordAt vector := by
  have hkind : ∀ a, (s.touchTimes 2 s.pc).kindAt a = s.kindAt a :=
    State.kindAt_congr (State.touchTimes_params 2 s s.pc)
  obtain ⟨hlow, hhigh⟩ := h
  exact State.takeException_pc (s := s.touchTimes 2 s.pc)
    (by rwa [hkind]) (by rwa [hkind])

/-- Above page one the three pushes of an exception change no byte. -/
theorem StoresBytes.byteAt_above_frame {s t : State} {sp p : Byte} {ret : Word}
    (h : StoresBytes s t (exceptionFrame sp ret p)) {a : Word} (ha : 0x200 ≤ a.toNat) :
    t.byteAt a = s.byteAt a := by
  have hne : ∀ b : Byte, a ≠ stackAddr b := by
    rintro b rfl
    have hb : b.toNat < 256 := b.isLt
    rw [stackAddr_toNat] at ha
    omega
  obtain ⟨-, hother⟩ := h
  exact hother a (by simp [exceptionFrame, hne])

/-! ### NMI -/

theorem step_of_nmi {s : State} (hreset : s.resetPending = false) (hnmi : s.nmiPending = true) :
    step s = .next ({ s with nmiPending := false }.interruptSequence nmiVector) := by
  simp [step, hreset, hnmi]

/-- Settles O51: the hardware sequence, whose pushes do not reach the vector. -/
theorem nonMaskableInterrupt : Obligations.NonMaskableInterrupt := by
  intro s hreset hnmi
  have hstored := State.interruptSequence_storesBytes (s := s)
    (u := { s with nmiPending := false }) rfl rfl nmiVector
  refine ⟨_, step_of_nmi hreset hnmi, State.interruptSequence_eq _ _, hstored, fun hvector => ?_⟩
  have hlow := hstored.byteAt_above_frame (a := 0xFFFC) (by decide)
  have hhigh := hstored.byteAt_above_frame (a := 0xFFFC + 1) (by decide)
  exact (State.interruptSequence_pc (s := { s with nmiPending := false }) hvector).trans
    (congrArg₂ wordOf hhigh hlow)

/-! ### The maskable sources -/

/-- The source that is taken is the first of the list that requests, and its request alone is
cleared (R302, R309). -/
theorem takeFirstPending_eq_some_iff {ls ls' : List IrqLine} {vector : Word} :
    takeFirstPending ls = some (vector, ls') ↔
      ∃ before line after, ls = before ++ line :: after ∧ (∀ l ∈ before, l.pending = false) ∧
        line.pending = true ∧ vector = line.vector ∧
        ls' = before ++ { line with pending := false } :: after := by
  constructor
  · intro h
    induction ls generalizing ls' with
    | nil => cases h
    | cons l ls ih =>
      unfold takeFirstPending at h
      split at h
      next hl =>
        cases h
        exact ⟨[], l, ls, rfl, by simp, hl, rfl, rfl⟩
      next hl =>
        obtain ⟨⟨w, rest⟩, hrest, heq⟩ := Option.map_eq_some_iff.mp h
        cases heq
        obtain ⟨before, line, after, rfl, hbefore, hline, hvector, rfl⟩ := ih hrest
        exact ⟨l :: before, line, after, rfl,
          List.forall_mem_cons.mpr ⟨Bool.eq_false_iff.mpr hl, hbefore⟩, hline, hvector, rfl⟩
  · rintro ⟨before, line, after, rfl, hbefore, hline, rfl, rfl⟩
    induction before with
    | nil => simp [takeFirstPending, hline]
    | cons l before ih =>
      obtain ⟨hl, hbefore⟩ := List.forall_mem_cons.mp hbefore
      simp [takeFirstPending, hl, ih hbefore]

theorem State.maskableRequest_of_unmasked {s : State} (h : s.p.i = false) :
    s.maskableRequest = takeFirstPending s.irqs := by
  simp [State.maskableRequest, h]

/-- A source is taken only while I_flag is 0 (R303). -/
theorem State.maskableRequest_eq_some {s : State} {vector : Word} {irqs : List IrqLine}
    (h : s.maskableRequest = some (vector, irqs)) :
    s.p.i = false ∧ takeFirstPending s.irqs = some (vector, irqs) := by
  unfold State.maskableRequest at h
  split at h
  next => cases h
  next hi => exact ⟨Bool.eq_false_iff.mpr hi, h⟩

theorem step_of_maskableRequest {s : State} {vector : Word} {irqs : List IrqLine}
    (hreset : s.resetPending = false) (hnmi : s.nmiPending = false)
    (h : s.maskableRequest = some (vector, irqs)) :
    step s = .next ({ s with irqs := irqs }.interruptSequence vector) := by
  simp [step, hreset, hnmi, h]

/-- Settles O52: the hardware sequence through the vector of the first source that requests. -/
theorem maskableInterruptInListOrder : Obligations.MaskableInterruptInListOrder := by
  intro s before after line hreset hnmi hmask hirqs hbefore hline
  have hrequest : s.maskableRequest =
      some (line.vector, before ++ { line with pending := false } :: after) := by
    rw [State.maskableRequest_of_unmasked hmask]
    exact takeFirstPending_eq_some_iff.mpr
      ⟨before, line, after, hirqs, hbefore, hline, rfl, rfl⟩
  refine ⟨_, step_of_maskableRequest hreset hnmi hrequest, ?_,
    State.interruptSequence_storesBytes (s := s) rfl rfl line.vector,
    State.interruptSequence_pc (s := { s with irqs := _ })⟩
  rw [State.interruptSequence_eq, hnmi]

/-! ### Requests that are not taken -/

/-- Taking a source raises no request of another. -/
theorem takeFirstPending_raises_none {ls ls' : List IrqLine} {vector : Word}
    (h : takeFirstPending ls = some (vector, ls')) (k : Nat)
    (hk : (ls[k]?).map IrqLine.pending = some false) :
    (ls'[k]?).map IrqLine.pending = some false := by
  obtain ⟨before, line, after, rfl, -, -, -, rfl⟩ := takeFirstPending_eq_some_iff.mp h
  rw [List.getElem?_append] at hk ⊢
  split at hk
  next hlt => rwa [if_pos hlt]
  next hge =>
    rw [if_neg hge]
    cases hpos : k - before.length with
    | zero => rfl
    | succ m => rwa [hpos] at hk

/-- Settles O53, by the kinds of step that are left: an NMI, a maskable request and an
instruction. -/
theorem requestsStayUntilTaken : Obligations.RequestsStayUntilTaken := by
  intro s t h hreset
  obtain ⟨hyes, -⟩ | ⟨-, -, rfl⟩ | ⟨vector, irqs, -, hnmi, hreq, rfl⟩ | ⟨i, -, hnmi, -, -, he⟩ :=
    step_cases h
  case inl => simp [hreset] at hyes
  case inr.inl =>
    rw [State.interruptSequence_eq]
    exact ⟨fun _ => rfl, rfl, hreset, fun _ hk => hk⟩
  case inr.inr.inl =>
    obtain ⟨hmask, htaken⟩ := State.maskableRequest_eq_some hreq
    rw [State.interruptSequence_eq]
    exact ⟨by simp [hmask, hnmi], hnmi, hreset, takeFirstPending_raises_none htaken⟩
  case inr.inr.inr =>
    obtain ⟨b, hf⟩ := s.fetch_only_bus
    rw [hf] at he
    obtain ⟨-, -, -, -, -, -, -, hirqs, hnmiKept, hresetKept⟩ := registersAsTabled i _ t he
    exact ⟨fun _ => hirqs, hnmiKept.trans hnmi, hresetKept.trans hreset,
      fun k hk => by rwa [hirqs]⟩

/-! ### RTI after an NMI -/

/-- The address that RTI goes to is the second and third byte pulled, low byte first (R236). -/
theorem State.returnFromException_pc_eq (s : State) :
    s.returnFromException.pc = wordOf (s.pulled 3) (s.pulled 2) := by
  rw [← State.pull_pull_pull_fst, ← State.pull_pull_fst]
  rfl

/-- Returning from an exception finds what taking it pushed, whatever the registers are by then
(R307, R312). -/
theorem StoresBytes.returnFromException_eq {s t r : State} {sp p : Byte} {ret : Word}
    (h : StoresBytes s t (exceptionFrame sp ret p))
    (hmem : r.mem = t.mem) (hparams : r.params = s.params) (hsp : r.sp = sp - 3)
    (hram0 : s.kindAt (stackAddr sp) = .ram) (hram1 : s.kindAt (stackAddr (sp - 1)) = .ram)
    (hram2 : s.kindAt (stackAddr (sp - 2)) = .ram) :
    r.returnFromException =
      { r with sp := sp, p := restoreP p r.p, pc := ret, bus := r.returnFromException.bus } := by
  have hhigh : r.pulled 3 = hiByte ret :=
    h.pulled_eq hmem hparams (by rw [hsp]; bv_omega) (by simp [exceptionFrame]) hram0
  have hlow : r.pulled 2 = loByte ret :=
    h.pulled_eq hmem hparams (by rw [hsp]; bv_omega) (by simp [exceptionFrame]) hram1
  have hflags : r.pull.1 = p :=
    h.pulled_eq (k := 1) hmem hparams (by rw [hsp]; bv_omega) (by simp [exceptionFrame]) hram2
  have hpc : r.returnFromException.pc = ret := by
    rw [State.returnFromException_pc_eq, hhigh, hlow, wordOf_hiByte_loByte]
  have hspBack : r.sp + 3 = sp := by rw [hsp]; bv_omega
  have hframe := r.returnFromException_eq_add_three
  rwa [hspBack, hflags, hpc] at hframe

/-- The P that was pushed comes back whole where B, which is not pulled, has not changed (D4). -/
theorem restoreP_pByte_own (bit5 : Bool) {p q : Status} (h : q.b = p.b) :
    restoreP (pByte bit5 p) q = p := by
  rw [restoreP_pByte, h]

/-- Settles O54 from O51: RTI pulls the frame that the sequence pushed. -/
theorem interruptThenReturn : Obligations.InterruptThenReturn := by
  intro s t hreset hnmi hram0 hram1 hram2 hstep
  obtain ⟨t', hstep', ht, hstored, -⟩ := nonMaskableInterrupt s hreset hnmi
  obtain rfl : t' = t := Host.Outcome.next.inj (hstep'.symm.trans hstep)
  obtain ⟨b, hexec⟩ := exec_rti t'
  have hparams : t'.params = s.params := by rw [ht]
  have hsp : t'.sp = s.sp - 3 := by rw [ht]
  have hreturn := hstored.returnFromException_eq (r := { t' with bus := b }) rfl hparams hsp
    hram0 hram1 hram2
  have hflags : restoreP (pByte s.params.pBit5 s.p) t'.p = s.p :=
    restoreP_pByte_own _ (by rw [ht])
  have hmem : { t' with bus := b }.returnFromException.mem = t'.mem :=
    State.returnFromException_mem _
  refine ⟨_, hexec, ?_, ?_⟩
  · rw [hmem]
    refine hreturn.trans ?_
    simp only [hflags]
    rw [ht]
  · obtain ⟨hwritten, hother⟩ := hstored
    exact ⟨fun w hw => (State.byteAt_congr hmem w.1).trans (hwritten w hw),
      fun a ha => (State.byteAt_congr hmem a).trans (hother a ha)⟩

/-! ### Reset -/

/-- The start sequence leaves memory and the parameters, fixes D and I_flag, and clears every
request (R330, R331). -/
theorem State.startSequence_eq (s : State) :
    s.startSequence =
      { s with
        a := s.startSequence.a, x := s.startSequence.x, y := s.startSequence.y
        sp := s.startSequence.sp, w := s.startSequence.w, ireg := s.startSequence.ireg
        p := { s.startSequence.p with d := false, i := s.params.resetI }
        pc := s.startSequence.pc, resetPending := false, nmiPending := false
        irqs := s.irqs.map fun l => { l with pending := false }
        bus := s.startSequence.bus } := by
  obtain ⟨b, h, -⟩ := s.startReads_only_bus
  simp only [State.startSequence, State.unspecifyRegisters, State.setPc, State.read16_snd,
    State.touch, h]

theorem step_of_reset {s : State} (h : s.resetPending = true) :
    step s = .next s.startSequence := by
  simp [step, h]

/-- Settles O55: the frame of the start sequence, and the word at its vector. -/
theorem startSequenceResult : Obligations.StartSequenceResult := fun s hreset =>
  ⟨s.startSequence, step_of_reset hreset, s.startSequence_eq,
    fun hvector => State.startSequence_pc hvector.1 hvector.2⟩

end Sys2Proof.Machine
end

section
/-! Every instruction completes, and its cycles are those of R335 and R336: O8 and O59. -/

namespace Sys2Proof.Machine

/-- Settles O8: the case split over the instructions is that of their writes. -/
theorem everyInstructionCompletes : Obligations.EveryInstructionCompletes := fun i s =>
  (exec_writesAt i s).imp fun _ h => h.1

/-! ### The columns of R335 by operand -/

/-- The cycles of an instruction that reads this operand, by R335: they depend on the mode alone. -/
def readCycles : Operand → Nat
  | .imm _ => 2
  | .mem (.zp _) => 3
  | .mem (.zpX _) | .mem (.zpY _) | .mem (.abs _) | .mem (.absX _) | .mem (.absY _) => 4
  | .mem (.ind _) | .mem (.indX _) => 5

/-- Note a of R336: one more cycle for a read whose index addition crosses a page. -/
def pageCycles (s : State) : Operand → Nat
  | .mem (.absX nn) => oneIf (crossesPage nn s.x)
  | .mem (.absY nn) => oneIf (crossesPage nn s.y)
  | .mem (.indX n) => oneIf (crossesPage (s.read16zp n).1 s.x)
  | _ => 0

/-- The cycles of a store in this mode, by R335; note a does not apply to it. -/
def storeCycles : Mode → Nat
  | .zp _ => 3
  | .zpX _ | .zpY _ | .abs _ => 4
  | .absX _ | .absY _ | .ind _ => 5
  | .indX _ => 6

/-- A read makes its ignored read only where the index addition crosses a page (R48). -/
theorem State.indexed_read_cycles (s : State) (base : Word) (index : Byte) :
    (s.indexed .read base index).2.bus.cycles =
      s.bus.cycles + oneIf (crossesPage base index) := by
  simp [oneIf]

/-- A write makes it always (R48). -/
theorem State.indexed_write_cycles (s : State) (base : Word) (index : Byte) :
    (s.indexed .write base index).2.bus.cycles = s.bus.cycles + 1 := by
  simp

/-- The fetch and the reading of an operand take the cycles of its column. -/
theorem State.operand_cycles (s : State) (o : Operand) :
    (s.operand o).2.bus.cycles + operandLength o =
      s.bus.cycles + (readCycles o + pageCycles s o) := by
  cases o with
  | imm n => rfl
  | mem m =>
    have hread : (s.operand (.mem m)).2.bus.cycles = (s.resolve .read m).2.bus.cycles + 1 :=
      State.touch_cycles _ _
    rw [hread]
    cases m with
    | zp n | abs nn => rfl
    | zpX n | zpY n =>
      simp only [State.resolve, State.touch_cycles]
      rfl
    | ind n =>
      simp only [State.resolve, State.read16zp_cycles]
      rfl
    | absX nn | absY nn =>
      simp only [State.resolve, State.indexed_read_cycles, operandLength, modeLength, readCycles,
        pageCycles]
      omega
    | indX n =>
      simp only [State.resolve, State.indexed_read_cycles, State.read16zp_cycles, operandLength,
        modeLength, readCycles, pageCycles]
      omega

/-- The fetch, the forming of the address and one write take the cycles of a store. -/
theorem State.resolve_write_cycles (s : State) (m : Mode) :
    (s.resolve .write m).2.bus.cycles + 1 + modeLength m = s.bus.cycles + storeCycles m := by
  cases m with
  | zp n | abs nn => rfl
  | zpX n | zpY n =>
    simp only [State.resolve, State.touch_cycles]
    rfl
  | ind n =>
    simp only [State.resolve, State.read16zp_cycles]
    rfl
  | absX nn | absY nn =>
    simp only [State.resolve, State.indexed_write_cycles]
    rfl
  | indX n =>
    simp only [State.resolve, State.indexed_write_cycles, State.read16zp_cycles]
    rfl

/-! ### Instructions by class -/

/-- From `s` to `t` the instruction takes the cycles of R335 with the adjustments of R336. -/
abbrev TakesTabled (s t : State) (i : Instr) : Prop :=
  TakesCycles s t i (baseCycles i + extraCycles s i)

/-- The execution of `i` makes `c` cycles, and `c` with the bytes fetched early is what the tables
give. -/
theorem TakesTabled.of_added {s t : State} {i : Instr} (c : Nat)
    (h : t.bus.cycles = s.bus.cycles + c)
    (htable : c + earlyBytes i = baseCycles i + extraCycles s i) : TakesTabled s t i := by
  rw [TakesTabled, TakesCycles, h, Nat.add_assoc, htable]

/-- A read instruction takes what its operand takes, and what it adds itself. -/
theorem State.withOperand_takesTabled {s : State} {o : Operand} {f : State → Byte → State}
    {i : Instr} {added : Nat}
    (hadded : ∀ u m, u.p = s.p → (f u m).bus.cycles = u.bus.cycles + added)
    (hlength : earlyBytes i = operandLength o) (hbase : baseCycles i = readCycles o)
    (hextra : extraCycles s i = pageCycles s o + added) :
    TakesTabled s (s.withOperand o f) i := by
  have hcycles : (s.withOperand o f).bus.cycles = (s.operand o).2.bus.cycles + added :=
    hadded _ _ (s.operand_p o)
  rw [TakesTabled, TakesCycles, hcycles, hlength, hbase, hextra, Nat.add_right_comm,
    s.operand_cycles o]
  omega

/-- Decimal mode adds a cycle to an addition (R336 note c). -/
theorem State.addTo_cycles (s : State) (m : Byte) (cin : Bool) :
    (s.addTo m cin).bus.cycles = s.bus.cycles + oneIf s.p.d := by
  unfold State.addTo oneIf
  split <;> rfl

theorem State.subtractFrom_cycles (s : State) (m : Byte) (cin : Bool) :
    (s.subtractFrom m cin).bus.cycles = s.bus.cycles + oneIf s.p.d := by
  unfold State.subtractFrom oneIf
  split <;> rfl

/-- ADC, ADD and SBC: a cycle more in decimal mode (R336 note c). -/
theorem State.withOperand_takesTabled_decimal {s : State} {o : Operand}
    {f : State → Byte → State} {i : Instr}
    (hadded : ∀ u m, (f u m).bus.cycles = u.bus.cycles + oneIf u.p.d)
    (hlength : earlyBytes i = operandLength o) (hbase : baseCycles i = readCycles o)
    (hextra : extraCycles s i = pageCycles s o + oneIf s.p.d) :
    TakesTabled s (s.withOperand o f) i :=
  State.withOperand_takesTabled (fun u m hp => hp ▸ hadded u m) hlength hbase hextra

theorem State.storeTo_takesTabled {s : State} {m : Mode} {v : Byte} {i : Instr}
    (hlength : earlyBytes i = modeLength m)
    (htable : baseCycles i + extraCycles s i = storeCycles m) :
    TakesTabled s (s.storeTo m v) i := by
  have hcycles : (s.storeTo m v).bus.cycles = (s.resolve .write m).2.bus.cycles + 1 :=
    State.write_cycles _ _ _
  rw [TakesTabled, TakesCycles, hcycles, hlength, htable, s.resolve_write_cycles m]

/-- A read/modify/write makes two reads more than a store (R50). -/
theorem State.modify_takesTabled {s : State} {m : Mode} {f : Byte → Status → Byte × Status}
    {i : Instr} (hlength : earlyBytes i = modeLength m)
    (htable : baseCycles i + extraCycles s i = storeCycles m + 2) :
    TakesTabled s (s.modify m f) i := by
  have hcycles : (s.modify m f).bus.cycles = (s.resolve .write m).2.bus.cycles + 3 := by
    simp [State.modify, State.modifyAt]
  have hstore := s.resolve_write_cycles m
  rw [TakesTabled, TakesCycles, hcycles, hlength, htable]
  omega

/-- EXC makes one read more than a store (R137). -/
theorem State.exchange_takesTabled {s : State} {m : Mode} {i : Instr}
    (hlength : earlyBytes i = modeLength m)
    (htable : baseCycles i + extraCycles s i = storeCycles m + 1) :
    TakesTabled s (s.exchange m) i := by
  have hcycles : (s.exchange m).bus.cycles = (s.resolve .write m).2.bus.cycles + 2 := by
    simp [State.exchange, State.read]
  have hstore := s.resolve_write_cycles m
  rw [TakesTabled, TakesCycles, hcycles, hlength, htable]
  omega

/-! ### Bit manipulation and branches -/

theorem State.changeBit_cycles (s : State) (n : Byte) (f : Byte → Byte) :
    (s.changeBit n f).bus.cycles = s.bus.cycles + 3 := by
  simp [State.changeBit, State.changeByte, State.modifyAt]

theorem State.maskBits_cycles (s : State) (nn : Word) (f : Byte → Byte) :
    (s.maskBits nn f).bus.cycles = s.bus.cycles + 3 := by
  simp [State.maskBits, State.changeByte, State.modifyAt]

/-- The ignored reads of a taken branch are its added cycles (R48, R336 note b). -/
theorem State.branch_cycles (s : State) (cond : Bool) (r : Byte) :
    (s.branch cond r).bus.cycles = s.bus.cycles + takenCycles cond (s.pc + 2) r := by
  unfold State.branch takenCycles
  dsimp only
  split
  · split <;> simp
  · rfl

/-- A taken branch adds a cycle at least, the one that R335 counts for BRA already. -/
theorem one_le_takenCycles (npc : Word) (r : Byte) : 1 ≤ takenCycles true npc r := by
  simp only [takenCycles, if_true]
  split <;> decide

theorem State.bitBranch_cycles (s : State) (cond : Bool) (len : Nat) (r : Byte) :
    (s.bitBranch cond len r).bus.cycles =
      s.bus.cycles + takenCycles cond (s.pc + BitVec.ofNat 16 len) r := by
  unfold State.bitBranch takenCycles
  dsimp only
  split
  · split <;> rfl
  · rfl

theorem State.testBit_cycles (s : State) (n : Byte) (cond : Byte → Bool) (r : Byte) :
    (s.testBit n cond r).bus.cycles =
      s.bus.cycles + (3 + takenCycles (cond (s.peek (zext n))) (s.pc + 3) r) := by
  simp [State.testBit, State.bitBranch_cycles, Nat.add_assoc]

theorem State.maskBranch_cycles (s : State) (nn : Word) (cond : Byte → Bool) (r : Byte) :
    (s.maskBranch nn cond r).bus.cycles =
      s.bus.cycles + (4 + takenCycles (cond (s.peek nn)) (s.pc + 5) r) := by
  simp [State.maskBranch, State.bitBranch_cycles, Nat.add_assoc]

/-! ### Jumps, calls and returns -/

theorem State.jumpThrough_cycles (s : State) (ptr : Word) :
    (s.jumpThrough ptr).bus.cycles = s.bus.cycles + 2 :=
  s.read16_cycles ptr

theorem State.jumpIndexed_cycles (s : State) (nn : Word) :
    (s.jumpIndexed nn).bus.cycles = s.bus.cycles + 3 := by
  simp [State.jumpIndexed, State.jumpThrough_cycles]

@[simp] theorem State.push16_cycles (s : State) (v : Word) :
    (s.push16 v).bus.cycles = s.bus.cycles + 2 := by
  simp [State.push16]

theorem State.jumpVector_cycles (s : State) (n : Fin 8) :
    (s.jumpVector n).bus.cycles = s.bus.cycles + 5 := by
  simp [State.jumpVector, State.jumpThrough_cycles]

theorem State.returnFromSubroutine_cycles (s : State) :
    s.returnFromSubroutine.bus.cycles = s.bus.cycles + 4 := by
  simp [State.returnFromSubroutine]

theorem State.returnFromException_cycles (s : State) :
    s.returnFromException.bus.cycles = s.bus.cycles + 3 := by
  simp [State.returnFromException]

theorem State.takeException_cycles (s : State) (ret vector : Word) (setB : Bool) :
    (s.takeException ret vector setB).bus.cycles = s.bus.cycles + 5 := by
  simp [State.takeException]

theorem State.softwareBreak_cycles (s : State) :
    s.softwareBreak.bus.cycles = s.bus.cycles + 6 := by
  simp [State.softwareBreak, State.takeException_cycles]

/-! ### Rounding, pushes, pulls and threaded code -/

/-- A free Y is drawn without an access (R197). -/
theorem State.round_cycles (s : State) : s.round.bus.cycles = s.bus.cycles + 1 := by
  unfold State.round State.roundY
  split <;> simp [State.implied_cycles]

/-- PHA, PHP, PHX and PHY (R251 to R254). -/
theorem State.implied_push_cycles (s : State) (v : Byte) :
    (s.implied.push v).bus.cycles = s.bus.cycles + 2 := by
  rw [State.push_cycles, State.implied_cycles]

/-- PHW and PHI (R255, R256). -/
theorem State.implied_push16_cycles (s : State) (v : Word) :
    (s.implied.push16 v).bus.cycles = s.bus.cycles + 3 := by
  rw [State.push16_cycles, State.implied_cycles]

/-- Before its first pull an instruction makes two ignored reads (R257, R48). -/
theorem State.impliedPull_cycles (s : State) : s.impliedPull.bus.cycles = s.bus.cycles + 2 := by
  simp [State.impliedPull, State.implied_cycles]

/-- PLA, PLX, PLY and PLP (R259 to R262). -/
theorem State.impliedPull_pull_cycles (s : State) :
    s.impliedPull.pull.2.bus.cycles = s.bus.cycles + 3 := by
  rw [State.pull_cycles, State.impliedPull_cycles]

theorem State.pullW_cycles (s : State) : s.pullW.bus.cycles = s.bus.cycles + 4 := by
  simp [State.pullW, State.impliedPull_cycles]

theorem State.pullI_cycles (s : State) : s.pullI.bus.cycles = s.bus.cycles + 5 := by
  simp [State.pullI, State.impliedPull_cycles]

theorem State.pullYXA_cycles (s : State) : s.pullYXA.bus.cycles = s.bus.cycles + 5 := by
  simp [State.pullYXA, State.impliedPull_cycles]

/-- PIA takes as long whether it loads X or not (R266, conflict C13). -/
theorem State.pullIA_cycles (s : State) : s.pullIA.bus.cycles = s.bus.cycles + 5 := by
  unfold State.pullIA State.loadA
  dsimp only
  split <;> simp [State.read, State.impliedPull_cycles]

/-- LAI, LAN and INI read the byte at I once (R272 to R274). -/
theorem State.implied_touch_cycles (s : State) (a : Word) :
    (s.implied.touch a).bus.cycles = s.bus.cycles + 2 := by
  rw [State.touch_cycles, State.implied_cycles]

theorem State.nextInstruction_cycles (s : State) :
    s.nextInstruction.bus.cycles = s.bus.cycles + 3 := by
  simp [State.nextInstruction]

theorem State.loadIIndirect_cycles (s : State) :
    s.loadIIndirect.bus.cycles = s.bus.cycles + 4 := by
  simp [State.loadIIndirect, State.implied_cycles]

theorem State.jumpSavingI_cycles (s : State) (ia : Word) :
    (s.jumpSavingI ia).bus.cycles = s.bus.cycles + 2 :=
  s.read16_cycles ia

/-! ### The instructions -/

/-- Every instruction completes in the cycles of the tables.  The instructions with an operand in
memory and the branches go by class, and every other by what its accesses come to, its early bytes
besides. -/
theorem exec_takesTabled (i : Instr) (s : State) :
    ∃ t, exec i s = .next t ∧ TakesTabled s t i := by
  cases i with
  | ldaInd | ldaZp | ldaImm | ldaAbs | ldaIndX | ldaZpX | ldaAbsY | ldaAbsX
  | ldxImm | ldxZp | ldxAbs | ldxZpY | ldxAbsY | ldyImm | ldyZp | ldyAbs | ldyZpX | ldyAbsX
  | andInd | andZp | andImm | andAbs | andIndX | andZpX | andAbsY | andAbsX
  | oraInd | oraZp | oraImm | oraAbs | oraIndX | oraZpX | oraAbsY | oraAbsX
  | eorInd | eorZp | eorImm | eorAbs | eorIndX | eorZpX | eorAbsY | eorAbsX
  | bitZp | bitAbs
  | cmpInd | cmpZp | cmpImm | cmpAbs | cmpIndX | cmpZpX | cmpAbsY | cmpAbsX
  | cpxImm | cpxZp | cpxAbs | cpyImm | cpyZp | cpyAbs =>
    exact ⟨_, rfl, State.withOperand_takesTabled (added := 0) (fun _ _ _ => rfl) rfl rfl rfl⟩
  | adcInd | adcZp | adcImm | adcAbs | adcZpX | addZp | addZpX | addImm =>
    exact ⟨_, rfl, State.withOperand_takesTabled_decimal (fun u m => u.addTo_cycles m _)
      rfl rfl (Nat.zero_add _).symm⟩
  | adcIndX | adcAbsY | adcAbsX =>
    exact ⟨_, rfl, State.withOperand_takesTabled_decimal (fun u m => u.addTo_cycles m _)
      rfl rfl rfl⟩
  | sbcInd | sbcZp | sbcImm | sbcAbs | sbcZpX =>
    exact ⟨_, rfl, State.withOperand_takesTabled_decimal (fun u m => u.subtractFrom_cycles m _)
      rfl rfl (Nat.zero_add _).symm⟩
  | sbcIndX | sbcAbsY | sbcAbsX =>
    exact ⟨_, rfl, State.withOperand_takesTabled_decimal (fun u m => u.subtractFrom_cycles m _)
      rfl rfl rfl⟩
  | staInd | staZp | staAbs | staIndX | staZpX | staAbsY | staAbsX
  | stxZp | stxAbs | stxZpY | styZp | styAbs | styZpX =>
    exact ⟨_, rfl, State.storeTo_takesTabled rfl rfl⟩
  | incZp | incAbs | incZpX | incAbsX | decZp | decAbs | decZpX | decAbsX
  | aslZp | aslAbs | aslZpX | aslAbsX | lsrZp | lsrAbs | lsrZpX | lsrAbsX
  | rolZp | rolAbs | rolZpX | rolAbsX | rorZp | rorAbs | rorZpX | rorAbsX =>
    exact ⟨_, rfl, State.modify_takesTabled rfl rfl⟩
  | exc => exact ⟨_, rfl, State.exchange_takesTabled rfl rfl⟩
  | rmb0 | rmb1 | rmb2 | rmb3 | rmb4 | rmb5 | rmb6 | rmb7
  | smb0 | smb1 | smb2 | smb3 | smb4 | smb5 | smb6 | smb7 =>
    exact ⟨_, rfl, .of_added 3 (s.changeBit_cycles _ _) rfl⟩
  | rba | sba => exact ⟨_, rfl, .of_added 3 (s.maskBits_cycles _ _) rfl⟩
  | bbr0 | bbr1 | bbr2 | bbr3 | bbr4 | bbr5 | bbr6 | bbr7
  | bbs0 | bbs1 | bbs2 | bbs3 | bbs4 | bbs5 | bbs6 | bbs7 =>
    exact ⟨_, rfl, .of_added _ (s.testBit_cycles _ _ _) (Nat.add_right_comm 3 _ 2)⟩
  | bar | bas =>
    exact ⟨_, rfl, .of_added _ (s.maskBranch_cycles _ _ _) (Nat.add_right_comm 4 _ 3)⟩
  | bcc | bcs | beq | bmi | bne | bpl | bvc | bvs =>
    exact ⟨_, rfl, .of_added _ (s.branch_cycles _ _) (Nat.add_comm _ 2)⟩
  | bra r =>
    have htaken := one_le_takenCycles (s.pc + 2) r
    have htable : takenCycles true (s.pc + 2) r + 2 =
        3 + (takenCycles true (s.pc + 2) r - 1) := by omega
    exact ⟨_, rfl, .of_added _ (s.branch_cycles true r) htable⟩
  | tax | tay | txa | tya | tsx | txs | inx | iny | dex | dey | negA
  | aslA | lsrA | rolA | rorA | asrA | taw | twa | clw
  | tip | clc | cld | cli | clv | sec | sed | sei | nop =>
    exact ⟨_, rfl, .of_added 1 s.implied_cycles rfl⟩
  | rnd => exact ⟨_, rfl, .of_added 1 s.round_cycles rfl⟩
  | labA => exact ⟨_, rfl, .of_added 2 (by simp [State.modifyA, State.implied_cycles]) rfl⟩
  | mpy | mpa => exact ⟨_, rfl, .of_added 5 s.impliedMultiply_cycles rfl⟩
  | sti => exact ⟨_, rfl, .of_added 1 (s.write_cycles _ _) rfl⟩
  | jmpAbs => exact ⟨_, rfl, .of_added 0 rfl rfl⟩
  | jmpInd => exact ⟨_, rfl, .of_added 2 (s.jumpThrough_cycles _) rfl⟩
  | jmpIndX => exact ⟨_, rfl, .of_added 3 (s.jumpIndexed_cycles _) rfl⟩
  | jpi => exact ⟨_, rfl, .of_added 2 (s.jumpSavingI_cycles _) rfl⟩
  | jsr => exact ⟨_, rfl, .of_added 2 (s.push16_cycles _) rfl⟩
  | jsb0 | jsb1 | jsb2 | jsb3 | jsb4 | jsb5 | jsb6 | jsb7 =>
    exact ⟨_, rfl, .of_added 5 (s.jumpVector_cycles _) rfl⟩
  | rts => exact ⟨_, rfl, .of_added 4 s.returnFromSubroutine_cycles rfl⟩
  | rti => exact ⟨_, rfl, .of_added 5 (by simp [State.returnFromException_cycles]) rfl⟩
  | brk => exact ⟨_, rfl, .of_added 6 s.softwareBreak_cycles rfl⟩
  | pha | php | phx | phy => exact ⟨_, rfl, .of_added 2 (s.implied_push_cycles _) rfl⟩
  | phw | phi => exact ⟨_, rfl, .of_added 3 (s.implied_push16_cycles _) rfl⟩
  | psh => exact ⟨_, rfl, .of_added 4 (by simp [State.implied_cycles]) rfl⟩
  | pla | plx | ply | plp => exact ⟨_, rfl, .of_added 3 s.impliedPull_pull_cycles rfl⟩
  | plw => exact ⟨_, rfl, .of_added 4 s.pullW_cycles rfl⟩
  | pli => exact ⟨_, rfl, .of_added 5 s.pullI_cycles rfl⟩
  | pul => exact ⟨_, rfl, .of_added 5 s.pullYXA_cycles rfl⟩
  | pia => exact ⟨_, rfl, .of_added 5 s.pullIA_cycles rfl⟩
  | nxt => exact ⟨_, rfl, .of_added 3 s.nextInstruction_cycles rfl⟩
  | lii => exact ⟨_, rfl, .of_added 4 s.loadIIndirect_cycles rfl⟩
  | lai | lan | ini => exact ⟨_, rfl, .of_added 2 (s.implied_touch_cycles s.ireg) rfl⟩

/-- Settles O59: what the execution of each instruction was found to take. -/
theorem cyclesAsTabled : Obligations.CyclesAsTabled := by
  intro i s t h
  obtain ⟨u, hu, htakes⟩ := exec_takesTabled i s
  obtain rfl : u = t := Host.Outcome.next.inj (hu.symm.trans h)
  exact htakes.trans (Nat.add_assoc _ _ _).symm

end Sys2Proof.Machine
end
